-- ==== Sys2Proof/Word.lean ====
section
/-! DEFINITION. The two widths of the machine (00_scope.md R8: XLEN = 8, ALEN = 16). -/

namespace Sys2Proof

/-- A byte: 8 bits, bit 0 the least significant (R9). -/
abbrev Byte := BitVec 8

/-- A word: 16 bits; register pairs, SP, PC and every address (R8, R9). -/
abbrev Word := BitVec 16

end Sys2Proof
end

