-- ==== Sys2Proof/Syntax.lean ====
section
/-! DEFINITION. The instructions: one constructor per row of spec/opcode_table.json, the rows with operand bytes first, each half in
the table's order, with the row's own name and the rule that gives it (30_encoding.md R199, R200). `ind` in a name is a pair of parentheses: the byte in memory there. -/

namespace Sys2Proof

/-- The seven 8-bit registers an operand code can name (R183). -/
inductive R8 where
  | b | c | d | e | h | l | a
  deriving DecidableEq, Repr

/-- The eight 8-bit operands of a 3-bit code: a register, or the byte at HL (R183). -/
inductive Opnd8 where
  | reg (r : R8)
  | indHl
  deriving DecidableEq, Repr

/-- `r16(k)` (R184). -/
inductive R16 where
  | bc | de | hl | sp
  deriving DecidableEq, Repr

/-- `r16stk(k)` (R184). -/
inductive R16Stk where
  | bc | de | hl | af
  deriving DecidableEq, Repr

/-- `r16mem(k)` (R184). -/
inductive R16Mem where
  | bc | de | hlInc | hlDec
  deriving DecidableEq, Repr

/-- `cc(k)` (R185). -/
inductive Cond where
  | nz | z | nc | c
  deriving DecidableEq, Repr

/-- `ALU(y)` (R189). -/
inductive AluOp where
  | add | adc | sub | sbc | and | xor | or | cp
  deriving DecidableEq, Repr

/-- `ROT(y)` (R192). -/
inductive RotOp where
  | rlc | rrc | rl | rr | sla | sra | swap | srl
  deriving DecidableEq, Repr

/-- The instructions. An operand byte or word is what follows the opcode in memory (R186); STOP's second byte is fetched and
ignored (R195). `prefixCb op2` is the table's row for the prefix byte with the byte after it (R445). -/
inductive Instr where
  /-- LD BC,d16 (R243) -/
  | ldBcD16 (w : Word)
  /-- LD B,d8 (R233) -/
  | ldBD8 (n : Byte)
  /-- LD (a16),SP (R244) -/
  | ldIndA16Sp (w : Word)
  /-- LD C,d8 (R233) -/
  | ldCD8 (n : Byte)
  /-- STOP (R442) -/
  | stop (ignored : Byte)
  /-- LD DE,d16 (R243) -/
  | ldDeD16 (w : Word)
  /-- LD D,d8 (R233) -/
  | ldDD8 (n : Byte)
  /-- JR e8 (R404) -/
  | jrE8 (e : Byte)
  /-- LD E,d8 (R233) -/
  | ldED8 (n : Byte)
  /-- JR NZ,e8 (R405) -/
  | jrNzE8 (e : Byte)
  /-- LD HL,d16 (R243) -/
  | ldHlD16 (w : Word)
  /-- LD H,d8 (R233) -/
  | ldHD8 (n : Byte)
  /-- JR Z,e8 (R405) -/
  | jrZE8 (e : Byte)
  /-- LD L,d8 (R233) -/
  | ldLD8 (n : Byte)
  /-- JR NC,e8 (R405) -/
  | jrNcE8 (e : Byte)
  /-- LD SP,d16 (R243) -/
  | ldSpD16 (w : Word)
  /-- LD (HL),d8 (R234) -/
  | ldIndHlD8 (n : Byte)
  /-- JR C,e8 (R405) -/
  | jrCE8 (e : Byte)
  /-- LD A,d8 (R233) -/
  | ldAD8 (n : Byte)
  /-- JP NZ,a16 (R402) -/
  | jpNzA16 (w : Word)
  /-- JP a16 (R401) -/
  | jpA16 (w : Word)
  /-- CALL NZ,a16 (R407) -/
  | callNzA16 (w : Word)
  /-- ADD A,d8 (R281) -/
  | addAD8 (n : Byte)
  /-- JP Z,a16 (R402) -/
  | jpZA16 (w : Word)
  /-- The prefix 0xCB (R445) -/
  | prefixCb (op2 : Byte)
  /-- CALL Z,a16 (R407) -/
  | callZA16 (w : Word)
  /-- CALL a16 (R406) -/
  | callA16 (w : Word)
  /-- ADC A,d8 (R282) -/
  | adcAD8 (n : Byte)
  /-- JP NC,a16 (R402) -/
  | jpNcA16 (w : Word)
  /-- CALL NC,a16 (R407) -/
  | callNcA16 (w : Word)
  /-- SUB A,d8 (R283) -/
  | subAD8 (n : Byte)
  /-- JP C,a16 (R402) -/
  | jpCA16 (w : Word)
  /-- CALL C,a16 (R407) -/
  | callCA16 (w : Word)
  /-- SBC A,d8 (R284) -/
  | sbcAD8 (n : Byte)
  /-- LDH (a8),A (R247) -/
  | ldhIndA8A (n : Byte)
  /-- AND A,d8 (R285) -/
  | andAD8 (n : Byte)
  /-- ADD SP,e8 (R333) -/
  | addSpE8 (e : Byte)
  /-- LD (a16),A (R242) -/
  | ldIndA16A (w : Word)
  /-- XOR A,d8 (R286) -/
  | xorAD8 (n : Byte)
  /-- LDH A,(a8) (R246) -/
  | ldhAIndA8 (n : Byte)
  /-- OR A,d8 (R287) -/
  | orAD8 (n : Byte)
  /-- LD HL,SP+e8 (R334) -/
  | ldHlSpE8 (e : Byte)
  /-- LD A,(a16) (R241) -/
  | ldAIndA16 (w : Word)
  /-- CP A,d8 (R288) -/
  | cpAD8 (n : Byte)
  /-- NOP (R440) -/
  | nop
  /-- LD (BC),A (R236) -/
  | ldIndBcA
  /-- INC BC (R331) -/
  | incBc
  /-- INC B (R289) -/
  | incB
  /-- DEC B (R291) -/
  | decB
  /-- RLCA (R360) -/
  | rlca
  /-- ADD HL,BC (R330) -/
  | addHlBc
  /-- LD A,(BC) (R235) -/
  | ldAIndBc
  /-- DEC BC (R332) -/
  | decBc
  /-- INC C (R289) -/
  | incC
  /-- DEC C (R291) -/
  | decC
  /-- RRCA (R361) -/
  | rrca
  /-- LD (DE),A (R236) -/
  | ldIndDeA
  /-- INC DE (R331) -/
  | incDe
  /-- INC D (R289) -/
  | incD
  /-- DEC D (R291) -/
  | decD
  /-- RLA (R362) -/
  | rla
  /-- ADD HL,DE (R330) -/
  | addHlDe
  /-- LD A,(DE) (R235) -/
  | ldAIndDe
  /-- DEC DE (R332) -/
  | decDe
  /-- INC E (R289) -/
  | incE
  /-- DEC E (R291) -/
  | decE
  /-- RRA (R363) -/
  | rra
  /-- LD (HL+),A (R239) -/
  | ldIndHlIncA
  /-- INC HL (R331) -/
  | incHl
  /-- INC H (R289) -/
  | incH
  /-- DEC H (R291) -/
  | decH
  /-- DAA (R293) -/
  | daa
  /-- ADD HL,HL (R330) -/
  | addHlHl
  /-- LD A,(HL+) (R237) -/
  | ldAIndHlInc
  /-- DEC HL (R332) -/
  | decHl
  /-- INC L (R289) -/
  | incL
  /-- DEC L (R291) -/
  | decL
  /-- CPL (R294) -/
  | cpl
  /-- LD (HL-),A (R240) -/
  | ldIndHlDecA
  /-- INC SP (R331) -/
  | incSp
  /-- INC (HL) (R290) -/
  | incIndHl
  /-- DEC (HL) (R292) -/
  | decIndHl
  /-- SCF (R295) -/
  | scf
  /-- ADD HL,SP (R330) -/
  | addHlSp
  /-- LD A,(HL-) (R238) -/
  | ldAIndHlDec
  /-- DEC SP (R332) -/
  | decSp
  /-- INC A (R289) -/
  | incA
  /-- DEC A (R291) -/
  | decA
  /-- CCF (R296) -/
  | ccf
  /-- LD B,B (R230) -/
  | ldBB
  /-- LD B,C (R230) -/
  | ldBC
  /-- LD B,D (R230) -/
  | ldBD
  /-- LD B,E (R230) -/
  | ldBE
  /-- LD B,H (R230) -/
  | ldBH
  /-- LD B,L (R230) -/
  | ldBL
  /-- LD B,(HL) (R231) -/
  | ldBIndHl
  /-- LD B,A (R230) -/
  | ldBA
  /-- LD C,B (R230) -/
  | ldCB
  /-- LD C,C (R230) -/
  | ldCC
  /-- LD C,D (R230) -/
  | ldCD
  /-- LD C,E (R230) -/
  | ldCE
  /-- LD C,H (R230) -/
  | ldCH
  /-- LD C,L (R230) -/
  | ldCL
  /-- LD C,(HL) (R231) -/
  | ldCIndHl
  /-- LD C,A (R230) -/
  | ldCA
  /-- LD D,B (R230) -/
  | ldDB
  /-- LD D,C (R230) -/
  | ldDC
  /-- LD D,D (R230) -/
  | ldDD
  /-- LD D,E (R230) -/
  | ldDE
  /-- LD D,H (R230) -/
  | ldDH
  /-- LD D,L (R230) -/
  | ldDL
  /-- LD D,(HL) (R231) -/
  | ldDIndHl
  /-- LD D,A (R230) -/
  | ldDA
  /-- LD E,B (R230) -/
  | ldEB
  /-- LD E,C (R230) -/
  | ldEC
  /-- LD E,D (R230) -/
  | ldED
  /-- LD E,E (R230) -/
  | ldEE
  /-- LD E,H (R230) -/
  | ldEH
  /-- LD E,L (R230) -/
  | ldEL
  /-- LD E,(HL) (R231) -/
  | ldEIndHl
  /-- LD E,A (R230) -/
  | ldEA
  /-- LD H,B (R230) -/
  | ldHB
  /-- LD H,C (R230) -/
  | ldHC
  /-- LD H,D (R230) -/
  | ldHD
  /-- LD H,E (R230) -/
  | ldHE
  /-- LD H,H (R230) -/
  | ldHH
  /-- LD H,L (R230) -/
  | ldHL
  /-- LD H,(HL) (R231) -/
  | ldHIndHl
  /-- LD H,A (R230) -/
  | ldHA
  /-- LD L,B (R230) -/
  | ldLB
  /-- LD L,C (R230) -/
  | ldLC
  /-- LD L,D (R230) -/
  | ldLD
  /-- LD L,E (R230) -/
  | ldLE
  /-- LD L,H (R230) -/
  | ldLH
  /-- LD L,L (R230) -/
  | ldLL
  /-- LD L,(HL) (R231) -/
  | ldLIndHl
  /-- LD L,A (R230) -/
  | ldLA
  /-- LD (HL),B (R232) -/
  | ldIndHlB
  /-- LD (HL),C (R232) -/
  | ldIndHlC
  /-- LD (HL),D (R232) -/
  | ldIndHlD
  /-- LD (HL),E (R232) -/
  | ldIndHlE
  /-- LD (HL),H (R232) -/
  | ldIndHlH
  /-- LD (HL),L (R232) -/
  | ldIndHlL
  /-- HALT (R441) -/
  | halt
  /-- LD (HL),A (R232) -/
  | ldIndHlA
  /-- LD A,B (R230) -/
  | ldAB
  /-- LD A,C (R230) -/
  | ldAC
  /-- LD A,D (R230) -/
  | ldAD
  /-- LD A,E (R230) -/
  | ldAE
  /-- LD A,H (R230) -/
  | ldAH
  /-- LD A,L (R230) -/
  | ldAL
  /-- LD A,(HL) (R231) -/
  | ldAIndHl
  /-- LD A,A (R230) -/
  | ldAA
  /-- ADD A,B (R281) -/
  | addAB
  /-- ADD A,C (R281) -/
  | addAC
  /-- ADD A,D (R281) -/
  | addAD
  /-- ADD A,E (R281) -/
  | addAE
  /-- ADD A,H (R281) -/
  | addAH
  /-- ADD A,L (R281) -/
  | addAL
  /-- ADD A,(HL) (R281) -/
  | addAIndHl
  /-- ADD A,A (R281) -/
  | addAA
  /-- ADC A,B (R282) -/
  | adcAB
  /-- ADC A,C (R282) -/
  | adcAC
  /-- ADC A,D (R282) -/
  | adcAD
  /-- ADC A,E (R282) -/
  | adcAE
  /-- ADC A,H (R282) -/
  | adcAH
  /-- ADC A,L (R282) -/
  | adcAL
  /-- ADC A,(HL) (R282) -/
  | adcAIndHl
  /-- ADC A,A (R282) -/
  | adcAA
  /-- SUB A,B (R283) -/
  | subAB
  /-- SUB A,C (R283) -/
  | subAC
  /-- SUB A,D (R283) -/
  | subAD
  /-- SUB A,E (R283) -/
  | subAE
  /-- SUB A,H (R283) -/
  | subAH
  /-- SUB A,L (R283) -/
  | subAL
  /-- SUB A,(HL) (R283) -/
  | subAIndHl
  /-- SUB A,A (R283) -/
  | subAA
  /-- SBC A,B (R284) -/
  | sbcAB
  /-- SBC A,C (R284) -/
  | sbcAC
  /-- SBC A,D (R284) -/
  | sbcAD
  /-- SBC A,E (R284) -/
  | sbcAE
  /-- SBC A,H (R284) -/
  | sbcAH
  /-- SBC A,L (R284) -/
  | sbcAL
  /-- SBC A,(HL) (R284) -/
  | sbcAIndHl
  /-- SBC A,A (R284) -/
  | sbcAA
  /-- AND A,B (R285) -/
  | andAB
  /-- AND A,C (R285) -/
  | andAC
  /-- AND A,D (R285) -/
  | andAD
  /-- AND A,E (R285) -/
  | andAE
  /-- AND A,H (R285) -/
  | andAH
  /-- AND A,L (R285) -/
  | andAL
  /-- AND A,(HL) (R285) -/
  | andAIndHl
  /-- AND A,A (R285) -/
  | andAA
  /-- XOR A,B (R286) -/
  | xorAB
  /-- XOR A,C (R286) -/
  | xorAC
  /-- XOR A,D (R286) -/
  | xorAD
  /-- XOR A,E (R286) -/
  | xorAE
  /-- XOR A,H (R286) -/
  | xorAH
  /-- XOR A,L (R286) -/
  | xorAL
  /-- XOR A,(HL) (R286) -/
  | xorAIndHl
  /-- XOR A,A (R286) -/
  | xorAA
  /-- OR A,B (R287) -/
  | orAB
  /-- OR A,C (R287) -/
  | orAC
  /-- OR A,D (R287) -/
  | orAD
  /-- OR A,E (R287) -/
  | orAE
  /-- OR A,H (R287) -/
  | orAH
  /-- OR A,L (R287) -/
  | orAL
  /-- OR A,(HL) (R287) -/
  | orAIndHl
  /-- OR A,A (R287) -/
  | orAA
  /-- CP A,B (R288) -/
  | cpAB
  /-- CP A,C (R288) -/
  | cpAC
  /-- CP A,D (R288) -/
  | cpAD
  /-- CP A,E (R288) -/
  | cpAE
  /-- CP A,H (R288) -/
  | cpAH
  /-- CP A,L (R288) -/
  | cpAL
  /-- CP A,(HL) (R288) -/
  | cpAIndHl
  /-- CP A,A (R288) -/
  | cpAA
  /-- RET NZ (R409) -/
  | retNz
  /-- POP BC (R251) -/
  | popBc
  /-- PUSH BC (R250) -/
  | pushBc
  /-- RST 0x00 (R410) -/
  | rst00
  /-- RET Z (R409) -/
  | retZ
  /-- RET (R408) -/
  | ret
  /-- RST 0x08 (R410) -/
  | rst08
  /-- RET NC (R409) -/
  | retNc
  /-- POP DE (R251) -/
  | popDe
  /-- Illegal opcode 0xD3 (R446) -/
  | illegalD3
  /-- PUSH DE (R250) -/
  | pushDe
  /-- RST 0x10 (R410) -/
  | rst10
  /-- RET C (R409) -/
  | retC
  /-- RETI (R412) -/
  | reti
  /-- Illegal opcode 0xDB (R446) -/
  | illegalDB
  /-- Illegal opcode 0xDD (R446) -/
  | illegalDD
  /-- RST 0x18 (R410) -/
  | rst18
  /-- POP HL (R251) -/
  | popHl
  /-- LD (C),A (R249) -/
  | ldIndCA
  /-- Illegal opcode 0xE3 (R446) -/
  | illegalE3
  /-- Illegal opcode 0xE4 (R446) -/
  | illegalE4
  /-- PUSH HL (R250) -/
  | pushHl
  /-- RST 0x20 (R410) -/
  | rst20
  /-- JP HL (R403) -/
  | jpHl
  /-- Illegal opcode 0xEB (R446) -/
  | illegalEB
  /-- Illegal opcode 0xEC (R446) -/
  | illegalEC
  /-- Illegal opcode 0xED (R446) -/
  | illegalED
  /-- RST 0x28 (R410) -/
  | rst28
  /-- POP AF (R254) -/
  | popAf
  /-- LD A,(C) (R248) -/
  | ldAIndC
  /-- DI (R443) -/
  | di
  /-- Illegal opcode 0xF4 (R446) -/
  | illegalF4
  /-- PUSH AF (R250) -/
  | pushAf
  /-- RST 0x30 (R410) -/
  | rst30
  /-- LD SP,HL (R245) -/
  | ldSpHl
  /-- EI (R444) -/
  | ei
  /-- Illegal opcode 0xFC (R446) -/
  | illegalFC
  /-- Illegal opcode 0xFD (R446) -/
  | illegalFD
  /-- RST 0x38 (R410) -/
  | rst38
  | rlcB
  | rlcC
  | rlcD
  | rlcE
  | rlcH
  | rlcL
  | rlcIndHl
  | rlcA
  | rrcB
  | rrcC
  | rrcD
  | rrcE
  | rrcH
  | rrcL
  | rrcIndHl
  | rrcA
  | rlB
  | rlC
  | rlD
  | rlE
  | rlH
  | rlL
  | rlIndHl
  | rlA
  | rrB
  | rrC
  | rrD
  | rrE
  | rrH
  | rrL
  | rrIndHl
  | rrA
  | slaB
  | slaC
  | slaD
  | slaE
  | slaH
  | slaL
  | slaIndHl
  | slaA
  | sraB
  | sraC
  | sraD
  | sraE
  | sraH
  | sraL
  | sraIndHl
  | sraA
  | swapB
  | swapC
  | swapD
  | swapE
  | swapH
  | swapL
  | swapIndHl
  | swapA
  | srlB
  | srlC
  | srlD
  | srlE
  | srlH
  | srlL
  | srlIndHl
  | srlA
  | bit0B
  | bit0C
  | bit0D
  | bit0E
  | bit0H
  | bit0L
  | bit0IndHl
  | bit0A
  | bit1B
  | bit1C
  | bit1D
  | bit1E
  | bit1H
  | bit1L
  | bit1IndHl
  | bit1A
  | bit2B
  | bit2C
  | bit2D
  | bit2E
  | bit2H
  | bit2L
  | bit2IndHl
  | bit2A
  | bit3B
  | bit3C
  | bit3D
  | bit3E
  | bit3H
  | bit3L
  | bit3IndHl
  | bit3A
  | bit4B
  | bit4C
  | bit4D
  | bit4E
  | bit4H
  | bit4L
  | bit4IndHl
  | bit4A
  | bit5B
  | bit5C
  | bit5D
  | bit5E
  | bit5H
  | bit5L
  | bit5IndHl
  | bit5A
  | bit6B
  | bit6C
  | bit6D
  | bit6E
  | bit6H
  | bit6L
  | bit6IndHl
  | bit6A
  | bit7B
  | bit7C
  | bit7D
  | bit7E
  | bit7H
  | bit7L
  | bit7IndHl
  | bit7A
  | res0B
  | res0C
  | res0D
  | res0E
  | res0H
  | res0L
  | res0IndHl
  | res0A
  | res1B
  | res1C
  | res1D
  | res1E
  | res1H
  | res1L
  | res1IndHl
  | res1A
  | res2B
  | res2C
  | res2D
  | res2E
  | res2H
  | res2L
  | res2IndHl
  | res2A
  | res3B
  | res3C
  | res3D
  | res3E
  | res3H
  | res3L
  | res3IndHl
  | res3A
  | res4B
  | res4C
  | res4D
  | res4E
  | res4H
  | res4L
  | res4IndHl
  | res4A
  | res5B
  | res5C
  | res5D
  | res5E
  | res5H
  | res5L
  | res5IndHl
  | res5A
  | res6B
  | res6C
  | res6D
  | res6E
  | res6H
  | res6L
  | res6IndHl
  | res6A
  | res7B
  | res7C
  | res7D
  | res7E
  | res7H
  | res7L
  | res7IndHl
  | res7A
  | set0B
  | set0C
  | set0D
  | set0E
  | set0H
  | set0L
  | set0IndHl
  | set0A
  | set1B
  | set1C
  | set1D
  | set1E
  | set1H
  | set1L
  | set1IndHl
  | set1A
  | set2B
  | set2C
  | set2D
  | set2E
  | set2H
  | set2L
  | set2IndHl
  | set2A
  | set3B
  | set3C
  | set3D
  | set3E
  | set3H
  | set3L
  | set3IndHl
  | set3A
  | set4B
  | set4C
  | set4D
  | set4E
  | set4H
  | set4L
  | set4IndHl
  | set4A
  | set5B
  | set5C
  | set5D
  | set5E
  | set5H
  | set5L
  | set5IndHl
  | set5A
  | set6B
  | set6C
  | set6D
  | set6E
  | set6H
  | set6L
  | set6IndHl
  | set6A
  | set7B
  | set7C
  | set7D
  | set7E
  | set7H
  | set7L
  | set7IndHl
  | set7A
  deriving DecidableEq, Repr

end Sys2Proof
end

