-- ==== Sys2Proof/WellFormed.lean ====
section
/-! DEFINITION. Which terms of Instr are instructions of their own. -/

namespace Sys2Proof

/-- The prefix row's term: "not an instruction on its own" (30_encoding.md R196, 45_system.md R445). -/
def Instr.isPrefixRow (i : Instr) : Bool :=
  match i with
  | .prefixCb _ => true
  | _ => false

/-- A term is well formed when its bytes are the bytes of no other term. Every operand has the width its field has, so the only
check is the prefix row: `0xCB op2` is the prefixed instruction `op2` (R196, R445; log entry 2). -/
def Instr.wellFormed (i : Instr) : Bool := !i.isPrefixRow

end Sys2Proof
end

