-- ==== Sys2Proof/Config.lean ====
section
/-! DEFINITION. What is fixed for the machine, and the free values the spec leaves open.

The parameters of 00_scope.md R8 that a run may choose (HALT_WAKE_NEEDS_IE, LOCKOUT_READ_FF, JOYPAD_IRQ, MODE3_LEN, MIX,
SAMPLE_RATE) are plain data in State (`Machine.Params`), so that every statement over all states is also a statement over all
of their values. Here stand the constants with no alternative, and the opaque free values. -/

namespace Sys2Proof.Config

/-- T-cycles per second of the system clock (R13, R751). -/
def clockHz : Nat := 4194304

/-- T-cycles in one bit of a serial transfer (R530). -/
def serialBitTicks : Nat := 512

/-- DESIGN CHOICE, log entry 10: the value a down-counter of the APU takes when a tick finds it already 0, where the spec
states no result (R740 to R742 and R712 subtract 1 from a counter that R743 and R67 call positive or 0..7). A free value. -/
opaque freeCountdown : Nat → Nat

/-- MODE3_LEN left OPEN (R620, D25): a free value for each line; the model keeps it inside [172, 289]. -/
opaque openMode3Len : Nat → Nat

/-- MIX left OPEN (R750, D30): a free pair (left, right) for each emitted sample, in 480ths. -/
opaque openMix : Nat → Int × Int

end Sys2Proof.Config
end

