-- ==== Sys2Proof/Machine/State.lean ====
section
/-! DEFINITION. The state of the machine as plain data (10_state.md), the reasons a step can stop (60_exceptions.md R510), and
the state right after reset (70_reset_and_hazards.md R800). -/

namespace Sys2Proof.Machine

/-- The interrupt master enable: three states (R37). -/
inductive Ime where
  | disabled
  | pending
  | enabled
  deriving DecidableEq, Repr

/-- Why a cartridge load is refused (R162). -/
inductive LoadReason where
  /-- The cartridge-type byte is none of 0x00 to 0x03 (R150). -/
  | cartType (code : Byte)
  /-- The ROM-size byte is above 0x08 (R159). -/
  | romSize (code : Byte)
  /-- The RAM-size byte is not in the table of R160. -/
  | ramSize (code : Byte)
  /-- The image is shorter than the declared size (R162). -/
  | shortImage (size declared : Nat)
  deriving DecidableEq, Repr

/-- The fatal conditions of R510, each with the information R510 records. All are the spec's own faults, so each is safe: the
machine stops exactly where the spec stops it. -/
inductive Fault where
  /-- Code 1. Raised by the eleven illegal opcodes (R446). Safe. -/
  | illegalOpcode (op : Byte) (pc : Word)
  /-- Code 2. Raised by any 2-byte access whose first address is 0xFFFF (R106): fetch of a 16-bit immediate, LD (a16),SP, PUSH,
  POP, CALL, RET, RETI, RST, interrupt entry. Safe. -/
  | wrapAccess16 (addr pc : Word)
  /-- Code 3. Raised by STOP (R442). Safe. -/
  | unmodelledStop (pc : Word)
  /-- Code 4. Raised by a cartridge load that fails (R162), never by a step. Safe. -/
  | loadError (reason : LoadReason)
  deriving DecidableEq, Repr

/-- Why the model has no meaning for an instruction. No arm of exec answers it: every row has its meaning. -/
inductive Refusal where
  /-- Raised by an arm of exec whose instruction has no meaning yet (none at present). Safe. -/
  | notModelled (mnemonic : String)
  deriving DecidableEq, Repr

/-- A byte array of the machine: (offset, byte) pairs in one canonical form, offsets strictly rising and no entry equal to what
an unlisted offset reads as (`Memory.unlisted`). -/
abbrev Memory := List Host.Cell

/-- The CPU: registers (R30, R36, R35), IME (R37) and the run state (R39). F is a whole byte with its low nibble 0 (R32). -/
structure Cpu where
  a : Byte
  f : Byte
  b : Byte
  c : Byte
  d : Byte
  e : Byte
  h : Byte
  l : Byte
  sp : Word
  pc : Word
  ime : Ime
  halted : Bool
  /-- M-cycles left in the time slot of the current instruction or dispatch (R39, R520). -/
  busy : Nat
  deriving DecidableEq, Repr

/-- Divider and programmable timer (R44 to R47, R63). TAC stores bits 2..0. -/
structure Timer where
  divider : Word
  tima : Byte
  tma : Byte
  tac : Byte
  overflowPending : Bool
  deriving DecidableEq, Repr

/-- Serial port (R42, R43, R64). SC stores bits 7 and 0. -/
structure Serial where
  sb : Byte
  sc : Byte
  bits : Nat
  clock : Nat
  deriving DecidableEq, Repr

/-- The eight logical buttons of the host (R69), true when pressed. -/
structure Buttons where
  right : Bool
  left : Bool
  up : Bool
  down : Bool
  btnA : Bool
  btnB : Bool
  select : Bool
  start : Bool
  deriving DecidableEq, Repr

/-- Joypad (R41, R69): the stored select bits 5..4 of P1, the last sampled buttons, and the nibble P1 presented in the previous
M-cycle. -/
structure Joypad where
  p1 : Byte
  buttons : Buttons
  p1Prev : BitVec 4
  deriving DecidableEq, Repr

/-- OAM DMA engine and its register (R55, R65). -/
structure Dma where
  reg : Byte
  active : Bool
  src : Word
  index : Nat
  phase : Nat
  deriving DecidableEq, Repr

/-- The four PPU modes, STAT[1:0] = 0, 1, 2, 3 in this order (R51, R602). -/
inductive PpuMode where
  | hblank
  | vblank
  | oamScan
  | transfer
  deriving DecidableEq, Repr

/-- Which object palette a pixel used (R637). -/
inductive ObjPalette where
  | obp0
  | obp1
  deriving DecidableEq, Repr

/-- One frame pixel (R637): colour index, palette selector (none for background and window), shade. -/
structure Pixel where
  idx : BitVec 2
  sel : Option ObjPalette
  shade : BitVec 2
  deriving DecidableEq, Repr

/-- A frame: 144 rows of 160 pixels (R637). -/
abbrev Frame := List (List Pixel)

/-- One OAM entry with its index (R634). -/
structure ObjEntry where
  index : Nat
  y : Byte
  x : Byte
  tile : Byte
  attr : Byte
  deriving DecidableEq, Repr

/-- What RenderLine sees of the machine: the capture of R638. -/
structure Snapshot where
  lcdc : Byte
  scx : Byte
  scy : Byte
  wx : Byte
  bgp : Byte
  obp0 : Byte
  obp1 : Byte
  vram : Memory
  objs : List ObjEntry
  deriving DecidableEq, Repr

/-- The PPU: registers (R50 to R57) and hidden state (R66). STAT stores bits 6..3. -/
structure Ppu where
  lcdc : Byte
  stat : Byte
  scy : Byte
  scx : Byte
  lyc : Byte
  bgp : Byte
  obp0 : Byte
  obp1 : Byte
  wy : Byte
  wx : Byte
  ly : Nat
  dot : Nat
  mode : PpuMode
  coincidence : Bool
  statLine : Bool
  wyLatch : Bool
  winLine : Nat
  winDrawn : Bool
  cand : List Nat
  mode3Len : Nat
  snap : Snapshot
  fbWork : Frame
  fbPub : Option Frame
  /-- The model's own: which free value MODE3_LEN takes next when it is left OPEN. -/
  free : Nat
  deriving DecidableEq, Repr

/-- A pulse channel (R67). -/
structure Pulse where
  on : Bool
  len : Nat
  timer : Nat
  dutyPos : Nat
  vol : Nat
  envTimer : Nat
  deriving DecidableEq, Repr

/-- The sweep unit of channel 1 (R67); the shadow has 11 bits. -/
structure Sweep where
  shadow : Nat
  timer : Nat
  enabled : Bool
  deriving DecidableEq, Repr

/-- The wave channel (R67). -/
structure Wave where
  on : Bool
  len : Nat
  timer : Nat
  pos : Nat
  sample : BitVec 4
  deriving DecidableEq, Repr

/-- The noise channel (R67). -/
structure Noise where
  on : Bool
  len : Nat
  timer : Nat
  lfsr : BitVec 15
  vol : Nat
  envTimer : Nat
  deriving DecidableEq, Repr

/-- The APU: registers NR10 to NR51 as stored bytes, the power bit of NR52 (R58, R71), wave RAM (R59), hidden state (R67). -/
structure Apu where
  power : Bool
  nr10 : Byte
  nr11 : Byte
  nr12 : Byte
  nr13 : Byte
  nr14 : Byte
  nr21 : Byte
  nr22 : Byte
  nr23 : Byte
  nr24 : Byte
  nr30 : Byte
  nr31 : Byte
  nr32 : Byte
  nr33 : Byte
  nr34 : Byte
  nr41 : Byte
  nr42 : Byte
  nr43 : Byte
  nr44 : Byte
  nr50 : Byte
  nr51 : Byte
  wave : Memory
  ch1 : Pulse
  sweep : Sweep
  ch2 : Pulse
  ch3 : Wave
  ch4 : Noise
  fsStep : Nat
  fsDivPrev : Bool
  sampleAcc : Nat
  /-- The model's own: which free value the APU takes next. -/
  free : Nat
  deriving DecidableEq, Repr

/-- Mapper variants (R150). -/
inductive MapperKind where
  | noMapper
  | bank
  deriving DecidableEq, Repr

/-- What a load fixes: the mapper parameters and the ROM image (R8, R62, R158). Nothing in a running machine changes it. -/
structure Cartridge where
  kind : MapperKind
  battery : Bool
  romBanks : Nat
  ramBanks : Nat
  rom : Memory
  deriving DecidableEq, Repr

/-- Mapper registers and cartridge RAM (R68, R62), the RAM keyed by its flat offset. -/
structure Mapper where
  romBankReg : BitVec 5
  ramBankReg : BitVec 2
  ramEnable : Bool
  ram : Memory
  deriving DecidableEq, Repr

/-- When the joypad requests IF[4] (R8 JOYPAD_IRQ, R532). -/
inductive JoypadIrq where
  | edge
  | never
  deriving DecidableEq, Repr

/-- A parameter the spec leaves OPEN beside a reference formula (MODE3_LEN, R622; MIX, R750). -/
inductive OpenParam where
  | reference
  | leftOpen
  deriving DecidableEq, Repr

/-- The run parameters of R8. A step never changes them. -/
structure Params where
  haltWakeNeedsIe : Bool
  lockoutReadFF : Bool
  joypadIrq : JoypadIrq
  mode3Len : OpenParam
  mix : OpenParam
  sampleRate : Nat
  deriving DecidableEq, Repr

/-- What the host sees of the core (R6 (h)): each stream newest first. The published frame is `Ppu.fbPub`. -/
structure Observed where
  /-- Battery-RAM records (flat offset, value) (R156). -/
  persist : List (Nat × Byte)
  /-- Bytes sent on the serial port (R530). -/
  serialOut : List Byte
  /-- Emitted audio pairs (left, right) in 480ths of full scale (R750, R751). -/
  samples : List (Int × Int)
  deriving DecidableEq, Repr

/-- The whole machine. -/
structure State where
  cpu : Cpu
  /-- The fault mark (R39 (c), R540). -/
  fault : Option Fault
  /-- IF, bits 4..0 stored (R48). -/
  ifReg : Byte
  /-- IE, all 8 bits stored (R49). -/
  ie : Byte
  timer : Timer
  serial : Serial
  joypad : Joypad
  dma : Dma
  ppu : Ppu
  apu : Apu
  mapper : Mapper
  cart : Cartridge
  /-- Video RAM, offsets from 0x8000 (R62, R111). -/
  vram : Memory
  /-- Object attribute memory, offsets from 0xFE00 (R62, R115). -/
  oam : Memory
  /-- Work RAM, offsets from 0xC000 (R62, R113). -/
  wram : Memory
  /-- High RAM, offsets from 0xFF80 (R62, R118). -/
  hram : Memory
  /-- The host's button states for the coming M-cycles, next first (R69, R130); when the list is empty the buttons stay as they
  are (log entry 6). -/
  buttonsIn : List Buttons
  out : Observed
  params : Params
  deriving DecidableEq, Repr

/-- No button pressed. -/
def Buttons.idle : Buttons := ⟨false, false, false, false, false, false, false, false⟩

/-- A frame of lightest background pixels; `fb_work` is unspecified at reset (R66), DESIGN CHOICE, log entry 12. -/
def Frame.blank : Frame := List.replicate 144 (List.replicate 160 ⟨0, none, 0⟩)

/-- The parameters' values in R8's column "this hardware". -/
def Params.default : Params :=
  { haltWakeNeedsIe := false, lockoutReadFF := false, joypadIrq := .edge, mode3Len := .reference, mix := .reference,
    sampleRate := 48000 }

/-- CPU at reset (R38 RESET_REGS, R37, R39); F is 0xB0, or 0x80 when the header checksum byte is 0. -/
def Cpu.reset (headerChecksum : Byte) : Cpu :=
  { a := 0x01, f := if headerChecksum = 0 then 0x80 else 0xB0, b := 0x00, c := 0x13, d := 0x00, e := 0xD8, h := 0x01,
    l := 0x4D, sp := 0xFFFE, pc := 0x0100, ime := .disabled, halted := false, busy := 0 }

/-- Timer at reset (R44 DIV_RESET, R45 to R47, R63). -/
def Timer.reset : Timer := { divider := 0xABCC, tima := 0x00, tma := 0x00, tac := 0x00, overflowPending := false }

/-- Serial port at reset (R42, R43, R64). -/
def Serial.reset : Serial := { sb := 0x00, sc := 0x00, bits := 0, clock := 0 }

/-- Joypad at reset (R41, R69); the buttons are a host input with no reset value, idle here (log entry 6). -/
def Joypad.reset : Joypad := { p1 := 0x00, buttons := .idle, p1Prev := 0xF }

/-- DMA at reset (R55, R65); source, index and phase have no stated value (log entry 12). -/
def Dma.reset : Dma := { reg := 0xFF, active := false, src := 0x0000, index := 0, phase := 0 }

/-- The line snapshot before any line was drawn: no stated value (log entry 12). -/
def Snapshot.empty : Snapshot :=
  { lcdc := 0, scx := 0, scy := 0, wx := 0, bgp := 0, obp0 := 0, obp1 := 0, vram := [], objs := [] }

/-- PPU at reset (R50 to R57, R60, R66), at the reference PPU_RESET_PHASE (0, 0) (D41). OBP0, OBP1, win_drawn, mode3_len, snap
and fb_work have no stated value (log entry 12). -/
def Ppu.reset : Ppu :=
  { lcdc := 0x91, stat := 0x00, scy := 0x00, scx := 0x00, lyc := 0x00, bgp := 0xFC, obp0 := 0x00, obp1 := 0x00, wy := 0x00,
    wx := 0x00, ly := 0, dot := 0, mode := .oamScan, coincidence := true, statLine := false, wyLatch := false, winLine := 0,
    winDrawn := false, cand := [], mode3Len := 172, snap := .empty, fbWork := .blank, fbPub := none, free := 0 }

/-- APU at reset: the reset column of R58, R71, R67; bits the read-OR masks hide and APU_RESET have no stated value (log entries
11 and 13): hidden bits 0, down-counters 1 (R743), the rest 0. -/
def Apu.reset : Apu :=
  { power := true, nr10 := 0x00, nr11 := 0x80, nr12 := 0xF3, nr13 := 0x00, nr14 := 0x00, nr21 := 0x00, nr22 := 0x00,
    nr23 := 0x00, nr24 := 0x00, nr30 := 0x00, nr31 := 0x00, nr32 := 0x00, nr33 := 0x00, nr34 := 0x00, nr41 := 0x00,
    nr42 := 0x00, nr43 := 0x00, nr44 := 0x00, nr50 := 0x77, nr51 := 0xF3, wave := [],
    ch1 := { on := true, len := 0, timer := 1, dutyPos := 0, vol := 0, envTimer := 1 },
    sweep := { shadow := 0, timer := 1, enabled := false },
    ch2 := { on := false, len := 0, timer := 1, dutyPos := 0, vol := 0, envTimer := 1 },
    ch3 := { on := false, len := 0, timer := 1, pos := 0, sample := 0 },
    ch4 := { on := false, len := 0, timer := 1, lfsr := 0, vol := 0, envTimer := 1 },
    fsStep := 0, fsDivPrev := false, sampleAcc := 0, free := 0 }

/-- Mapper registers at reset (R68) over cartridge RAM that holds `ram`. -/
def Mapper.reset (ram : Memory) : Mapper := { romBankReg := 1, ramBankReg := 0, ramEnable := false, ram := ram }

/-- The cartridge whose image is 32 KiB of zeros: type byte 0x00, ROM-size byte 0x00, RAM-size byte 0x00 (R150, R159, R160). -/
def Cartridge.blank : Cartridge := { kind := .noMapper, battery := false, romBanks := 2, ramBanks := 0, rom := [] }

/-- The machine right after reset (R800) with nothing placed in its cartridge: the launch of the all-zero 32 KiB image with the
default parameters, so the header checksum byte is 0 and F is 0x80 (R38; log entry 3). -/
def State.reset : State :=
  { cpu := .reset 0, fault := none, ifReg := 0x00, ie := 0x00, timer := .reset, serial := .reset, joypad := .reset, dma := .reset,
    ppu := .reset, apu := .reset, mapper := .reset [], cart := .blank, vram := [], oam := [], wram := [], hram := [],
    buttonsIn := [], out := { persist := [], serialOut := [], samples := [] }, params := .default }

end Sys2Proof.Machine
end

