-- ==== Sys2Proof/Machine/Fields.lean ====
section
/-! DEFINITION. Bits and fields of register bytes (00_scope.md R9). -/

namespace Sys2Proof.Machine

/-- `v[n]` as a truth value (R9). -/
def bit (v : Byte) (n : Nat) : Bool := v.getLsbD n

/-- `v[hi:lo]` as an unsigned number (R9). -/
def field (v : Byte) (hi lo : Nat) : Nat := v.toNat / 2 ^ lo % 2 ^ (hi + 1 - lo)

/-- `bool(c)` at bit position `n` of a byte (R14). -/
def flagBit (c : Bool) (n : Nat) : Byte := BitVec.ofNat 8 (c.toNat * 2 ^ n)

end Sys2Proof.Machine
end

