-- ==== Sys2Proof/Machine/Memory.lean ====
section
/-! DEFINITION. Byte arrays: reading and writing one byte in the canonical form of `Memory` (10_state.md R62). -/

namespace Sys2Proof.Machine

/-- What an offset that no entry lists reads as. INIT_RAM is OPEN (R62, D14); 0x00 is a DESIGN CHOICE (log entry 4). -/
def Memory.unlisted : Byte := 0x00

/-- The byte at an offset. -/
def Memory.read : Memory → Nat → Byte
  | [], _ => Memory.unlisted
  | (k, v) :: m, a => if a = k then v else Memory.read m a

/-- Every entry of one offset taken out. -/
def Memory.remove : Memory → Nat → Memory
  | [], _ => []
  | (k, v) :: m, a => if a = k then Memory.remove m a else (k, v) :: Memory.remove m a

/-- An entry put in at its place in the rising order. -/
def Memory.insert : Memory → Nat → Byte → Memory
  | [], a, x => [(a, x)]
  | (k, v) :: m, a, x => if a < k then (a, x) :: (k, v) :: m else (k, v) :: Memory.insert m a x

/-- One byte stored; writing what an unlisted offset reads as leaves no entry. -/
def Memory.write (m : Memory) (a : Nat) (x : Byte) : Memory :=
  if x = Memory.unlisted then m.remove a else (m.remove a).insert a x

/-- The array that a list of cells describes, later cells winning. -/
def Memory.ofCells (cells : List Host.Cell) : Memory :=
  cells.foldl (fun m c => m.write c.1 c.2) []

/-- The entries below a size: an image or a save file cut to what the machine holds (R161, R162). -/
def Memory.below (m : Memory) (n : Nat) : Memory := m.filter (fun c => c.1 < n)

/-- The canonical form: offsets strictly rising, no entry equal to what an unlisted offset reads as. -/
abbrev Memory.wf (m : Memory) : Prop :=
  m.Pairwise (fun c d => c.1 < d.1) ∧ ∀ c ∈ m, c.2 ≠ Memory.unlisted

/-- Every entry lies below a size. -/
abbrev Memory.within (m : Memory) (n : Nat) : Prop := ∀ c ∈ m, c.1 < n

end Sys2Proof.Machine
end

