-- ==== Sys2Proof/Machine/Apu.lean ====
section
/-! DEFINITION. The audio unit (62_apu.md): register access, frame sequencer, channel generators, triggers, mixer, samples. -/

namespace Sys2Proof.Machine

/-- The registers of R58 by name. -/
inductive ApuReg where
  | nr10 | nr11 | nr12 | nr13 | nr14
  | nr21 | nr22 | nr23 | nr24
  | nr30 | nr31 | nr32 | nr33 | nr34
  | nr41 | nr42 | nr43 | nr44
  | nr50 | nr51 | nr52
  deriving DecidableEq, Repr

/-! ## DACs, periods and outputs -/

/-- `dac_1` (R702). -/
def Apu.dac1 (a : Apu) : Bool := decide (a.nr12 &&& 0xF8 ≠ 0)

/-- `dac_2` (R702). -/
def Apu.dac2 (a : Apu) : Bool := decide (a.nr22 &&& 0xF8 ≠ 0)

/-- `dac_3` (R702). -/
def Apu.dac3 (a : Apu) : Bool := bit a.nr30 7

/-- `dac_4` (R702). -/
def Apu.dac4 (a : Apu) : Bool := decide (a.nr42 &&& 0xF8 ≠ 0)

/-- The 11-bit period `(NRx4 & 7) << 8 | NRx3` (R740, R741). -/
def period (hi lo : Byte) : Nat := field hi 2 0 * 256 + lo.toNat

/-- `period_1` (R740). -/
def Apu.period1 (a : Apu) : Nat := period a.nr14 a.nr13

/-- Reload of a pulse timer (R740). -/
def pulseReload (p : Nat) : Nat := (2048 - p) * 4

/-- Reload of the wave timer (R741). -/
def waveReload (p : Nat) : Nat := (2048 - p) * 2

/-- `NoisePeriod()` (R742): `div(NR43[2:0]) << NR43[7:4]`. -/
def noisePeriod (nr43 : Byte) : Nat :=
  (if field nr43 2 0 = 0 then 8 else 16 * field nr43 2 0) * 2 ^ field nr43 7 4

/-- The DUTY table (R740), the pattern's digits for duty_pos 0 to 7. -/
def duty (sel : Nat) : List Nat :=
  match sel with
  | 0 => [0, 0, 0, 0, 0, 0, 0, 1]
  | 1 => [1, 0, 0, 0, 0, 0, 0, 1]
  | 2 => [1, 0, 0, 0, 0, 1, 1, 1]
  | _ => [0, 1, 1, 1, 1, 1, 1, 0]

/-- `out_n` of a pulse channel (R740). -/
def pulseOut (nrx1 : Byte) (p : Pulse) : Nat :=
  if p.on then (duty (field nrx1 7 6)).getD p.dutyPos 0 * p.vol else 0

/-- The right shift of the wave level NR32[6:5] (R741). -/
def waveShift (nr32 : Byte) : Nat :=
  match field nr32 6 5 with
  | 0 => 4
  | 1 => 0
  | 2 => 1
  | _ => 2

/-- `out_3` (R741). -/
def waveOut (nr32 : Byte) (w : Wave) : Nat := if w.on then w.sample.toNat / 2 ^ waveShift nr32 else 0

/-- `out_4` (R742). -/
def noiseOut (n : Noise) : Nat := if n.on then (1 - (n.lfsr.getLsbD 0).toNat) * n.vol else 0

/-! ## Counters and generators -/

/-- A down-counter's next value; from 0 the spec states none, and it is a free value (log entry 10). -/
def countDown (k t : Nat) : Nat := if t = 0 then Config.freeCountdown k else t - 1

/-- `PulseTick(n)` (R740), `p` the channel's period. -/
def pulseTick (k p : Nat) (c : Pulse) : Pulse :=
  if countDown k c.timer = 0 then { c with timer := pulseReload p, dutyPos := (c.dutyPos + 1) % 8 }
  else { c with timer := countDown k c.timer }

/-- `WaveNibble(i)`: the high nibble of byte i/2 when i is even, the low one when i is odd (R741, R59). -/
def waveNibble (m : Memory) (i : Nat) : BitVec 4 :=
  if i % 2 = 0 then BitVec.ofNat 4 (field (m.read (i / 2)) 7 4) else BitVec.ofNat 4 (field (m.read (i / 2)) 3 0)

/-- `WaveTick()` (R741). -/
def waveTick (k p : Nat) (m : Memory) (c : Wave) : Wave :=
  if countDown k c.timer = 0 then
    { c with timer := waveReload p, pos := (c.pos + 1) % 32, sample := waveNibble m ((c.pos + 1) % 32) }
  else { c with timer := countDown k c.timer }

/-- `LfsrStep()` (R742): x is the XOR of bits 0 and 1, shifted in at bit 14 and, in 7-bit mode, also at bit 6. -/
def lfsrStep (narrow : Bool) (l : BitVec 15) : BitVec 15 :=
  let x : BitVec 15 := if l.getLsbD 0 ^^ l.getLsbD 1 then 1 else 0
  let r := (l >>> 1) ||| (x <<< 14)
  if narrow then (r &&& ~~~(0x40 : BitVec 15)) ||| (x <<< 6) else r

/-- `NoiseTick()` (R742). -/
def noiseTick (k : Nat) (nr43 : Byte) (c : Noise) : Noise :=
  if countDown k c.timer = 0 then
    { c with
      timer := noisePeriod nr43
      lfsr := if field nr43 7 4 < 14 then lfsrStep (bit nr43 3) c.lfsr else c.lfsr }
  else { c with timer := countDown k c.timer }

/-- One T-cycle of the four generators (R730). -/
def Apu.tick (a : Apu) : Apu :=
  { a with
    ch1 := pulseTick a.free (period a.nr14 a.nr13) a.ch1
    ch2 := pulseTick (a.free + 1) (period a.nr24 a.nr23) a.ch2
    ch3 := waveTick (a.free + 2) (period a.nr34 a.nr33) a.wave a.ch3
    ch4 := noiseTick (a.free + 3) a.nr43 a.ch4
    free := a.free + 4 }

/-! ## Length, envelope and sweep -/

/-- One channel's length step: the new length and whether the channel stays as it is (R711). -/
def lengthStep (nrx4 : Byte) (on : Bool) (len : Nat) : Bool × Nat :=
  if bit nrx4 6 ∧ 0 < len then (on && decide (len - 1 ≠ 0), len - 1) else (on, len)

/-- `LengthClock()` (R711). -/
def Apu.lengthClock (a : Apu) : Apu :=
  let l1 := lengthStep a.nr14 a.ch1.on a.ch1.len
  let l2 := lengthStep a.nr24 a.ch2.on a.ch2.len
  let l3 := lengthStep a.nr34 a.ch3.on a.ch3.len
  let l4 := lengthStep a.nr44 a.ch4.on a.ch4.len
  { a with
    ch1 := { a.ch1 with on := l1.1, len := l1.2 }
    ch2 := { a.ch2 with on := l2.1, len := l2.2 }
    ch3 := { a.ch3 with on := l3.1, len := l3.2 }
    ch4 := { a.ch4 with on := l4.1, len := l4.2 } }

/-- The envelope countdown (R712); from 0 a free value inside the stated 0..7 (R67; log entry 10). -/
def envDown (k t : Nat) : Nat := if t = 0 then Config.freeCountdown k % 8 else t - 1

/-- One channel's envelope step: (env_timer, vol) (R712). -/
def envStep (k : Nat) (nrx2 : Byte) (timer vol : Nat) : Nat × Nat :=
  let pace := field nrx2 2 0
  if pace = 0 then (timer, vol)
  else if envDown k timer = 0 then
    (pace,
      if bit nrx2 3 then (if vol < 15 then vol + 1 else vol) else (if 0 < vol then vol - 1 else vol))
  else (envDown k timer, vol)

/-- `EnvelopeClock()` (R712). -/
def Apu.envelopeClock (a : Apu) : Apu :=
  let e1 := envStep a.free a.nr12 a.ch1.envTimer a.ch1.vol
  let e2 := envStep (a.free + 1) a.nr22 a.ch2.envTimer a.ch2.vol
  let e4 := envStep (a.free + 2) a.nr42 a.ch4.envTimer a.ch4.vol
  { a with
    ch1 := { a.ch1 with envTimer := e1.1, vol := e1.2 }
    ch2 := { a.ch2 with envTimer := e2.1, vol := e2.2 }
    ch4 := { a.ch4 with envTimer := e4.1, vol := e4.2 }
    free := a.free + 3 }

/-- The value `SweepCalc()` computes (R713). -/
def sweepTarget (nr10 : Byte) (shadow : Nat) : Nat :=
  if bit nr10 3 then shadow - shadow / 2 ^ field nr10 2 0 else shadow + shadow / 2 ^ field nr10 2 0

/-- `SweepCalc()`'s check: past 11 bits the channel goes off (R713). -/
def Apu.sweepCheck (a : Apu) : Apu :=
  if 2047 < sweepTarget a.nr10 a.sweep.shadow then { a with ch1 := { a.ch1 with on := false } } else a

/-- The sweep pace NR10[6:4] as a timer reload: 8 for 0 (R713, R720). -/
def sweepReload (nr10 : Byte) : Nat := if field nr10 6 4 = 0 then 8 else field nr10 6 4

/-- The write-back of a sweep step: the shadow, NR13 and NR14[2:0] take `f` (R713). -/
def Apu.sweepWriteBack (a : Apu) (f : Nat) : Apu :=
  { a with
    sweep := { a.sweep with shadow := f }
    nr13 := BitVec.ofNat 8 f
    nr14 := (a.nr14 &&& 0xF8) ||| BitVec.ofNat 8 (f / 256 % 8) }

/-- The sweep step proper, when the timer has run out (R713). -/
def Apu.sweepStep (a : Apu) : Apu :=
  let f := sweepTarget a.nr10 a.sweep.shadow
  let a' := a.sweepCheck
  if f ≤ 2047 ∧ field a.nr10 2 0 ≠ 0 then (a'.sweepWriteBack f).sweepCheck else a'

/-- `SweepClock()` (R713). -/
def Apu.sweepClock (a : Apu) : Apu :=
  if a.sweep.timer - 1 = 0 then
    let a' := { a with sweep := { a.sweep with timer := sweepReload a.nr10 } }
    if a.sweep.enabled ∧ field a.nr10 6 4 ≠ 0 then a'.sweepStep else a'
  else { a with sweep := { a.sweep with timer := a.sweep.timer - 1 } }

/-- `FrameSeqClock()` (R731). -/
def Apu.frameSeqClock (a : Apu) : Apu :=
  let s := a.fsStep
  let a := if s % 2 = 0 then a.lengthClock else a
  let a := if s = 2 ∨ s = 6 then a.sweepClock else a
  let a := if s = 7 then a.envelopeClock else a
  { a with fsStep := (s + 1) % 8 }

/-! ## Triggers and register access -/

/-- Trigger of a pulse channel (R720). -/
def triggerPulse (dac : Bool) (nrx2 : Byte) (p : Nat) (c : Pulse) : Pulse :=
  { c with
    on := dac
    len := if c.len = 0 then 64 else c.len
    timer := pulseReload p
    vol := field nrx2 7 4
    envTimer := field nrx2 2 0 }

/-- Trigger of channel 1 (R720): the pulse actions, the sweep state, and one overflow check. -/
def Apu.trigger1 (a : Apu) : Apu :=
  let a' := { a with
    ch1 := triggerPulse a.dac1 a.nr12 a.period1 a.ch1
    sweep :=
      { shadow := a.period1, timer := sweepReload a.nr10,
        enabled := decide (field a.nr10 6 4 ≠ 0 ∨ field a.nr10 2 0 ≠ 0) } }
  if field a.nr10 2 0 ≠ 0 then a'.sweepCheck else a'

/-- Trigger of channel 2 (R720). -/
def Apu.trigger2 (a : Apu) : Apu := { a with ch2 := triggerPulse a.dac2 a.nr22 (period a.nr24 a.nr23) a.ch2 }

/-- Trigger of channel 3 (R720). -/
def Apu.trigger3 (a : Apu) : Apu :=
  { a with
    ch3 :=
      { a.ch3 with
        on := a.dac3
        len := if a.ch3.len = 0 then 256 else a.ch3.len
        timer := waveReload (period a.nr34 a.nr33)
        pos := 0 } }

/-- Trigger of channel 4 (R720). -/
def Apu.trigger4 (a : Apu) : Apu :=
  { a with
    ch4 :=
      { on := a.dac4
        len := if a.ch4.len = 0 then 64 else a.ch4.len
        timer := noisePeriod a.nr43
        lfsr := 0x7FFF
        vol := field a.nr42 7 4
        envTimer := field a.nr42 2 0 } }

/-- Power off (R701): NR10 to NR51 and the hidden state clear, except the lengths, the LFSR, fs_div_prev and sample_acc. -/
def Apu.powerOff (a : Apu) : Apu :=
  { a with
    power := false, nr10 := 0, nr11 := 0, nr12 := 0, nr13 := 0, nr14 := 0, nr21 := 0, nr22 := 0, nr23 := 0, nr24 := 0,
    nr30 := 0, nr31 := 0, nr32 := 0, nr33 := 0, nr34 := 0, nr41 := 0, nr42 := 0, nr43 := 0, nr44 := 0, nr50 := 0, nr51 := 0,
    ch1 := { on := false, len := a.ch1.len, timer := 0, dutyPos := 0, vol := 0, envTimer := 0 },
    sweep := { shadow := 0, timer := 0, enabled := false },
    ch2 := { on := false, len := a.ch2.len, timer := 0, dutyPos := 0, vol := 0, envTimer := 0 },
    ch3 := { on := false, len := a.ch3.len, timer := 0, pos := 0, sample := 0 },
    ch4 := { on := false, len := a.ch4.len, timer := 0, lfsr := a.ch4.lfsr, vol := 0, envTimer := 0 },
    fsStep := 0 }

/-- A CPU write to NR52 (R71, R701): only a change of bit 7 does anything. -/
def Apu.powerWrite (a : Apu) (v : Byte) : Apu :=
  if a.power ∧ bit v 7 = false then a.powerOff
  else if a.power = false ∧ bit v 7 then { a with power := true, fsStep := 0 }
  else a

/-- A length load of a 64-step channel: `64 - (v & 0x3F)` (R710). -/
def length64 (v : Byte) : Nat := 64 - field v 5 0

/-- A CPU write to NR10..NR51 while power is on: the store, then the register's side effect (R721). -/
def Apu.regWrite (a : Apu) (r : ApuReg) (v : Byte) : Apu :=
  match r with
  | .nr10 => { a with nr10 := v }
  | .nr11 => { a with nr11 := v, ch1 := { a.ch1 with len := length64 v } }
  | .nr12 =>
    let a := { a with nr12 := v }
    if a.dac1 then a else { a with ch1 := { a.ch1 with on := false } }
  | .nr13 => { a with nr13 := v }
  | .nr14 =>
    let a := { a with nr14 := v }
    if bit v 7 then a.trigger1 else a
  | .nr21 => { a with nr21 := v, ch2 := { a.ch2 with len := length64 v } }
  | .nr22 =>
    let a := { a with nr22 := v }
    if a.dac2 then a else { a with ch2 := { a.ch2 with on := false } }
  | .nr23 => { a with nr23 := v }
  | .nr24 =>
    let a := { a with nr24 := v }
    if bit v 7 then a.trigger2 else a
  | .nr30 =>
    let a := { a with nr30 := v }
    if a.dac3 then a else { a with ch3 := { a.ch3 with on := false } }
  | .nr31 => { a with nr31 := v, ch3 := { a.ch3 with len := 256 - v.toNat } }
  | .nr32 => { a with nr32 := v }
  | .nr33 => { a with nr33 := v }
  | .nr34 =>
    let a := { a with nr34 := v }
    if bit v 7 then a.trigger3 else a
  | .nr41 => { a with nr41 := v, ch4 := { a.ch4 with len := length64 v } }
  | .nr42 =>
    let a := { a with nr42 := v }
    if a.dac4 then a else { a with ch4 := { a.ch4 with on := false } }
  | .nr43 => { a with nr43 := v }
  | .nr44 =>
    let a := { a with nr44 := v }
    if bit v 7 then a.trigger4 else a
  | .nr50 => { a with nr50 := v }
  | .nr51 => { a with nr51 := v }
  | .nr52 => a.powerWrite v

/-- A CPU write to an APU register (R701, R721): NR10..NR51 only while power is on, NR52 always. -/
def Apu.write (a : Apu) (r : ApuReg) (v : Byte) : Apu :=
  if a.power ∨ r = .nr52 then a.regWrite r v else a

/-- NR52 as it reads (R71). -/
def Apu.nr52Read (a : Apu) : Byte :=
  flagBit a.power 7 ||| 0x70 ||| flagBit a.ch4.on 3 ||| flagBit a.ch3.on 2 ||| flagBit a.ch2.on 1 ||| flagBit a.ch1.on 0

/-- A CPU read of an APU register: the stored byte with its read-OR mask (R58). -/
def Apu.read (a : Apu) (r : ApuReg) : Byte :=
  match r with
  | .nr10 => a.nr10 ||| 0x80
  | .nr11 => a.nr11 ||| 0x3F
  | .nr12 => a.nr12
  | .nr13 => a.nr13 ||| 0xFF
  | .nr14 => a.nr14 ||| 0xBF
  | .nr21 => a.nr21 ||| 0x3F
  | .nr22 => a.nr22
  | .nr23 => a.nr23 ||| 0xFF
  | .nr24 => a.nr24 ||| 0xBF
  | .nr30 => a.nr30 ||| 0x7F
  | .nr31 => a.nr31 ||| 0xFF
  | .nr32 => a.nr32 ||| 0x9F
  | .nr33 => a.nr33 ||| 0xFF
  | .nr34 => a.nr34 ||| 0xBF
  | .nr41 => a.nr41 ||| 0xFF
  | .nr42 => a.nr42
  | .nr43 => a.nr43
  | .nr44 => a.nr44 ||| 0xBF
  | .nr50 => a.nr50
  | .nr51 => a.nr51
  | .nr52 => a.nr52Read

/-! ## Mixing and samples -/

/-- A channel behind its DAC, in 15ths: `out / 7.5 - 1`, or 0 when the DAC is off (R750). -/
def dacOut (dac : Bool) (out : Nat) : Int := if dac then 2 * (out : Int) - 15 else 0

/-- One side of the mix in 480ths of full scale: the routed channels' sum / 4 × (volume + 1) / 8 (R750). `shift` is 4 for left
and 0 for right. -/
def Apu.mixSide (a : Apu) (shift vol : Nat) : Int :=
  let route (n : Nat) (x : Int) : Int := if bit a.nr51 (shift + n) then x else 0
  (route 0 (dacOut a.dac1 (pulseOut a.nr11 a.ch1)) + route 1 (dacOut a.dac2 (pulseOut a.nr21 a.ch2))
    + route 2 (dacOut a.dac3 (waveOut a.nr32 a.ch3)) + route 3 (dacOut a.dac4 (noiseOut a.ch4))) * ((vol : Int) + 1)

/-- The pair (L, R) of R750: the reference formula, or the k-th free value when MIX is left OPEN (D30). -/
def Apu.mix (a : Apu) (p : OpenParam) (k : Nat) : Int × Int :=
  match p with
  | .reference => (a.mixSide 4 (field a.nr50 6 4), a.mixSide 0 (field a.nr50 2 0))
  | .leftOpen => Config.openMix k

/-- `SampleStep()` (R751): the accumulator gains 4 × SAMPLE_RATE and each whole clock second's worth emits one pair. -/
def sampleStep (s : State) : State :=
  let acc := s.apu.sampleAcc + 4 * s.params.sampleRate
  { s with
    apu := { s.apu with sampleAcc := acc % Config.clockHz, free := s.apu.free + acc / Config.clockHz }
    out := { s.out with
      samples :=
        ((List.range (acc / Config.clockHz)).map (fun i => s.apu.mix s.params.mix (s.apu.free + i))).reverse ++ s.out.samples } }

/-- The generator part of `apu_mcycle()` (R730): the frame sequencer on a falling edge of divider bit 12, then four T-cycles. -/
def Apu.mcycle (a : Apu) (b : Bool) : Apu :=
  let fall := a.fsDivPrev && !b
  let a := { a with fsDivPrev := b }
  if a.power then (if fall then a.frameSeqClock else a).tick.tick.tick.tick else a

/-- `apu_mcycle()` (R730). -/
def apuMcycle (s : State) : State :=
  sampleStep { s with apu := s.apu.mcycle (s.timer.divider.getLsbD 12) }

end Sys2Proof.Machine
end

