-- ==== Sys2Proof/Machine/Joypad.lean ====
section
/-! DEFINITION. The joypad: P1 (10_state.md R41) and its M-cycle (60_exceptions.md R532). -/

namespace Sys2Proof.Machine

/-- Four input lines, 0 where pressed, bit 3 first. -/
def lines (b3 b2 b1 b0 : Bool) : BitVec 4 :=
  BitVec.ofNat 4 (8 * (!b3).toNat + 4 * (!b2).toNat + 2 * (!b1).toNat + (!b0).toNat)

/-- The action group: Start, Select, B, A (R41). -/
def Buttons.action (b : Buttons) : BitVec 4 := lines b.start b.select b.btnB b.btnA

/-- The direction pad: Down, Up, Left, Right (R41). -/
def Buttons.dpad (b : Buttons) : BitVec 4 := lines b.down b.up b.left b.right

/-- The low nibble of P1: the AND of the selected groups, select bits low (R41). -/
def p1Nibble (sel : Byte) (b : Buttons) : BitVec 4 :=
  (if bit sel 5 then 0xF else b.action) &&& (if bit sel 4 then 0xF else b.dpad)

/-- A read of P1: `0xC0 | sel[5:4] | nibble` (R41). -/
def Joypad.read (j : Joypad) : Byte :=
  0xC0 ||| (j.p1 &&& 0x30) ||| (p1Nibble j.p1 j.buttons).zeroExtend 8

/-- A CPU write to P1 stores bits 5..4 (R41). -/
def Joypad.write (j : Joypad) (v : Byte) : Joypad := { j with p1 := v &&& 0x30 }

/-- `joypad_mcycle(buttons)` (R532): sample the buttons, request interrupt 4 on a line that goes from 1 to 0, keep the nibble. -/
def joypadSample (s : State) (buttons : Buttons) : State :=
  let n := p1Nibble s.joypad.p1 buttons
  let fall := s.joypad.p1Prev &&& (n ^^^ 0xF)
  { s with
    joypad := { s.joypad with buttons := buttons, p1Prev := n }
    ifReg := if s.params.joypadIrq = .edge ∧ fall ≠ 0 then s.ifReg ||| 0x10 else s.ifReg }

/-- The joypad's M-cycle over the host's next button state (R69, R130); with none left the buttons are as they were. -/
def joypadMcycle (s : State) : State :=
  match s.buttonsIn with
  | [] => joypadSample s s.joypad.buttons
  | b :: rest => joypadSample { s with buttonsIn := rest } b

end Sys2Proof.Machine
end

