-- ==== Sys2Proof/Machine/Mapper.lean ====
section
/-! DEFINITION. The cartridge mapper (20_memory.md §6, R150 to R157). -/

namespace Sys2Proof.Machine

/-- The bank visible at [0x4000, 0x8000): 0 selects 1, then modulo the bank count (R152). -/
def effRomBank (c : Cartridge) (m : Mapper) : Nat :=
  (if m.romBankReg = 0 then 1 else m.romBankReg.toNat) % c.romBanks

/-- The flat ROM offset of an address below 0x8000 (R151, R152). -/
def romOffset (c : Cartridge) (m : Mapper) (a : Nat) : Nat :=
  match c.kind with
  | .noMapper => a
  | .bank => if a < 0x4000 then a else effRomBank c m * 0x4000 + (a - 0x4000)

/-- A read of [0x0000, 0x8000) (R151, R152). -/
def romRead (c : Cartridge) (m : Mapper) (a : Nat) : Byte := c.rom.read (romOffset c m a)

/-- The flat cartridge-RAM offset of an address in [0xA000, 0xC000) (R156). -/
def ramOffset (c : Cartridge) (m : Mapper) (a : Nat) : Nat :=
  m.ramBankReg.toNat % c.ramBanks * 0x2000 + (a - 0xA000)

/-- Cartridge RAM answers: a bank-switching cartridge that has RAM, enabled (R151, R156). -/
def ramPresent (c : Cartridge) (m : Mapper) : Bool :=
  match c.kind with
  | .noMapper => false
  | .bank => m.ramEnable && decide (0 < c.ramBanks)

/-- A read of [0xA000, 0xC000): 0xFF where no RAM answers (R151, R156). -/
def cartRamRead (c : Cartridge) (m : Mapper) (a : Nat) : Byte :=
  if ramPresent c m then m.ram.read (ramOffset c m a) else 0xFF

/-- A write to [0x0000, 0x8000): the mapper registers by range (R153 to R155); ignored without a mapper (R151) and in
[0x6000, 0x8000) (R155). -/
def mapperRegWrite (c : Cartridge) (m : Mapper) (a : Nat) (v : Byte) : Mapper :=
  match c.kind with
  | .noMapper => m
  | .bank =>
    if a < 0x2000 then { m with ramEnable := decide (v &&& 0x0F = 0x0A) }
    else if a < 0x4000 then { m with romBankReg := v.truncate 5 }
    else if a < 0x6000 then { m with ramBankReg := v.truncate 2 }
    else m

/-- A write to [0xA000, 0xC000): the store, then the persistence record of a battery cartridge (R156). -/
def cartRamWrite (s : State) (a : Nat) (v : Byte) : State :=
  if ramPresent s.cart s.mapper then
    let off := ramOffset s.cart s.mapper a
    { s with
      mapper := { s.mapper with ram := s.mapper.ram.write off v }
      out := if s.cart.battery then { s.out with persist := (off, v) :: s.out.persist } else s.out }
  else s

end Sys2Proof.Machine
end

