-- ==== Sys2Proof/Machine/Serial.lean ====
section
/-! DEFINITION. The serial shifter (60_exceptions.md §6, R530). -/

namespace Sys2Proof.Machine

/-- A CPU write to SC (R43, R530): bits 7 and 0 are stored; start with the internal clock begins a transfer and shows the host the
byte being sent; any other write stops the transfer. -/
def scWrite (s : State) (v : Byte) : State :=
  if bit v 7 && bit v 0 then
    { s with
      serial := { s.serial with sc := v &&& 0x81, bits := 8, clock := 0 }
      out := { s.out with serialOut := s.serial.sb :: s.out.serialOut } }
  else { s with serial := { s.serial with sc := v &&& 0x81, bits := 0 } }

/-- One bit of a transfer done: SB shifts left with a 1 coming in (R530). -/
def Serial.shift (p : Serial) : Serial :=
  { p with clock := 0, sb := (p.sb <<< 1) ||| 0x01, bits := p.bits - 1 }

/-- `serial_mcycle()` (R530): every 512 T-cycles a bit shifts; the last one clears SC[7] and requests interrupt 3. -/
def serialMcycle (s : State) : State :=
  if s.serial.bits = 0 then s
  else if s.serial.clock + 4 = Config.serialBitTicks then
    if s.serial.bits = 1 then
      { s with
        serial := { s.serial.shift with sc := s.serial.sc &&& 0x7F }
        ifReg := s.ifReg ||| 0x08 }
    else { s with serial := s.serial.shift }
  else { s with serial := { s.serial with clock := s.serial.clock + 4 } }

end Sys2Proof.Machine
end

