-- ==== Sys2Proof/Machine/Timer.lean ====
section
/-! DEFINITION. The divider and the programmable timer (60_exceptions.md §5, R522 to R526). -/

namespace Sys2Proof.Machine

/-- Which divider bit TAC[1:0] selects (R47, R522). -/
def Timer.sel (tac : Byte) : Nat :=
  match field tac 1 0 with
  | 0 => 9
  | 1 => 3
  | 2 => 5
  | _ => 7

/-- `TimerIn(d) = TAC[2] & d[sel(TAC[1:0])]` (R522). -/
def Timer.input (t : Timer) (d : Word) : Bool := bit t.tac 2 && d.getLsbD (Timer.sel t.tac)

/-- `TimaInc()` (R522): a wrap leaves 0x00 and defers the reload (R523). -/
def Timer.inc (t : Timer) : Timer :=
  if t.tima = 0xFF then { t with tima := 0x00, overflowPending := true } else { t with tima := t.tima + 1 }

/-- A CPU write to DIV (R44, R525): the divider clears, and a falling edge counts once. -/
def Timer.divWrite (t : Timer) : Timer :=
  if t.input t.divider then ({ t with divider := 0 } : Timer).inc else { t with divider := 0 }

/-- A CPU write to TIMA (R524): a pending reload is cancelled. -/
def Timer.timaWrite (t : Timer) (v : Byte) : Timer := { t with tima := v, overflowPending := false }

/-- A CPU write to TMA (R524). -/
def Timer.tmaWrite (t : Timer) (v : Byte) : Timer := { t with tma := v }

/-- A CPU write to TAC (R47, R525): bits 2..0 are stored, and a falling edge of the selected bit counts once. -/
def Timer.tacWrite (t : Timer) (v : Byte) : Timer :=
  let t' := { t with tac := v &&& 0x07 }
  if t.input t.divider && !t'.input t'.divider then t'.inc else t'

/-- The deferred reload: TIMA takes TMA and the flag clears (R522, R523). -/
def Timer.reload (t : Timer) : Timer := { t with overflowPending := false, tima := t.tma }

/-- The divider moves on by one M-cycle, and a falling edge of the selected bit counts (R522). -/
def Timer.advance (t : Timer) : Timer :=
  let t' := { t with divider := t.divider + 4 }
  if t.input t.divider && !t.input t'.divider then t'.inc else t'

/-- `timer_mcycle()` (R522): a deferred overflow reloads TIMA and requests interrupt 2, then the divider advances. -/
def timerMcycle (s : State) : State :=
  if s.timer.overflowPending then
    { s with timer := s.timer.reload.advance, ifReg := s.ifReg ||| 0x04 }
  else { s with timer := s.timer.advance }

end Sys2Proof.Machine
end

