-- ==== Sys2Proof/Machine/Bus.lean ====
section
/-! DEFINITION. The bus router and the regions of the address space (20_memory.md §1 to §4), and the I/O registers
(10_state.md §3). -/

namespace Sys2Proof.Machine

/-! ## The memory map -/

/-- The regions of R101, in address order. -/
inductive Region where
  | rom0
  | romX
  | vram
  | cartRam
  | wram0
  | wram1
  | echo
  | oam
  | prohibited
  | io
  | hram
  | ie
  deriving DecidableEq, Repr

/-- The one region that owns an address (R101, R103). -/
def regionOf (a : Word) : Region :=
  let n := a.toNat
  if n < 0x4000 then .rom0
  else if n < 0x8000 then .romX
  else if n < 0xA000 then .vram
  else if n < 0xC000 then .cartRam
  else if n < 0xD000 then .wram0
  else if n < 0xE000 then .wram1
  else if n < 0xFE00 then .echo
  else if n < 0xFEA0 then .oam
  else if n < 0xFF00 then .prohibited
  else if n < 0xFF80 then .io
  else if n < 0xFFFF then .hram
  else .ie

/-- The I/O registers of R40 by name; `wave i` is byte i of wave RAM. -/
inductive IoReg where
  | p1 | sb | sc | div | tima | tma | tac | ifr
  | apu (r : ApuReg)
  | wave (i : Nat)
  | lcdc | stat | scy | scx | ly | lyc | dma | bgp | obp0 | obp1 | wy | wx
  | unimplemented
  deriving DecidableEq, Repr

/-- The APU register at an offset from 0xFF00 (R58). -/
def apuRegAt (o : Nat) : Option ApuReg :=
  match o with
  | 0x10 => some .nr10
  | 0x11 => some .nr11
  | 0x12 => some .nr12
  | 0x13 => some .nr13
  | 0x14 => some .nr14
  | 0x16 => some .nr21
  | 0x17 => some .nr22
  | 0x18 => some .nr23
  | 0x19 => some .nr24
  | 0x1A => some .nr30
  | 0x1B => some .nr31
  | 0x1C => some .nr32
  | 0x1D => some .nr33
  | 0x1E => some .nr34
  | 0x20 => some .nr41
  | 0x21 => some .nr42
  | 0x22 => some .nr43
  | 0x23 => some .nr44
  | 0x24 => some .nr50
  | 0x25 => some .nr51
  | 0x26 => some .nr52
  | _ => none

/-- The register at an offset from 0xFF00 (R40, R61). -/
def ioRegAt (o : Nat) : IoReg :=
  match o with
  | 0x00 => .p1
  | 0x01 => .sb
  | 0x02 => .sc
  | 0x04 => .div
  | 0x05 => .tima
  | 0x06 => .tma
  | 0x07 => .tac
  | 0x0F => .ifr
  | 0x40 => .lcdc
  | 0x41 => .stat
  | 0x42 => .scy
  | 0x43 => .scx
  | 0x44 => .ly
  | 0x45 => .lyc
  | 0x46 => .dma
  | 0x47 => .bgp
  | 0x48 => .obp0
  | 0x49 => .obp1
  | 0x4A => .wy
  | 0x4B => .wx
  | _ =>
    if 0x30 ≤ o ∧ o < 0x40 then .wave (o - 0x30)
    else
      match apuRegAt o with
      | some r => .apu r
      | none => .unimplemented

/-! ## PPU status as the bus sees it -/

/-- LCDC[7] (R50). -/
def Ppu.lcdOn (p : Ppu) : Bool := bit p.lcdc 7

/-- STAT[1:0] of a mode (R51, R602). -/
def PpuMode.code : PpuMode → Byte
  | .hblank => 0
  | .vblank => 1
  | .oamScan => 2
  | .transfer => 3

/-- The PPU is in a mode with the LCD on: the condition of every lockout (R111, R115, R116). -/
def Ppu.inMode (p : Ppu) (m : PpuMode) : Bool := p.lcdOn && decide (p.mode = m)

/-- A read of STAT (R51); with the LCD off the mode reads 0 (R640). -/
def Ppu.statRead (p : Ppu) : Byte :=
  0x80 ||| (p.stat &&& 0x78) ||| flagBit p.coincidence 2 ||| (if p.lcdOn then p.mode.code else 0)

/-- A read of LY (R53, R611); 0 with the LCD off (R640). -/
def Ppu.lyRead (p : Ppu) : Byte := if p.lcdOn then BitVec.ofNat 8 p.ly else 0

/-- A CPU write to LCDC (R50, R640): a change of bit 7 turns the LCD off, or restarts it at line 0, dot 0. -/
def Ppu.lcdcWrite (p : Ppu) (v : Byte) : Ppu :=
  if p.lcdOn ∧ bit v 7 = false then { p with lcdc := v, ly := 0, dot := 0, mode := .hblank, statLine := false }
  else if p.lcdOn = false ∧ bit v 7 then { p with lcdc := v, ly := 0, dot := 0, wyLatch := false, winLine := 0 }
  else { p with lcdc := v }

/-! ## I/O registers -/

/-- A read of an I/O register (R117, R40 to R61). -/
def ioRead (s : State) (r : IoReg) : Byte :=
  match r with
  | .p1 => s.joypad.read
  | .sb => s.serial.sb
  | .sc => s.serial.sc ||| 0x7E
  | .div => s.timer.divider.extractLsb' 8 8
  | .tima => s.timer.tima
  | .tma => s.timer.tma
  | .tac => s.timer.tac ||| 0xF8
  | .ifr => s.ifReg ||| 0xE0
  | .apu r => s.apu.read r
  | .wave i => s.apu.wave.read i
  | .lcdc => s.ppu.lcdc
  | .stat => s.ppu.statRead
  | .scy => s.ppu.scy
  | .scx => s.ppu.scx
  | .ly => s.ppu.lyRead
  | .lyc => s.ppu.lyc
  | .dma => s.dma.reg
  | .bgp => s.ppu.bgp
  | .obp0 => s.ppu.obp0
  | .obp1 => s.ppu.obp1
  | .wy => s.ppu.wy
  | .wx => s.ppu.wx
  | .unimplemented => 0xFF

/-- A CPU write to DMA stores the byte and starts or restarts a transfer (R120). -/
def Dma.start (v : Byte) : Dma := { reg := v, active := true, src := v.zeroExtend 16 <<< 8, index := 0, phase := 0 }

/-- A CPU write to an I/O register (R117, R109). -/
def ioWrite (s : State) (r : IoReg) (v : Byte) : State :=
  match r with
  | .p1 => { s with joypad := s.joypad.write v }
  | .sb => { s with serial := { s.serial with sb := v } }
  | .sc => scWrite s v
  | .div => { s with timer := s.timer.divWrite }
  | .tima => { s with timer := s.timer.timaWrite v }
  | .tma => { s with timer := s.timer.tmaWrite v }
  | .tac => { s with timer := s.timer.tacWrite v }
  | .ifr => { s with ifReg := v &&& 0x1F }
  | .apu r => { s with apu := s.apu.write r v }
  | .wave i => { s with apu := { s.apu with wave := s.apu.wave.write i v } }
  | .lcdc => { s with ppu := s.ppu.lcdcWrite v }
  | .stat => { s with ppu := { s.ppu with stat := v &&& 0x78 } }
  | .scy => { s with ppu := { s.ppu with scy := v } }
  | .scx => { s with ppu := { s.ppu with scx := v } }
  | .ly => s
  | .lyc => { s with ppu := { s.ppu with lyc := v } }
  | .dma => { s with dma := Dma.start v }
  | .bgp => { s with ppu := { s.ppu with bgp := v } }
  | .obp0 => { s with ppu := { s.ppu with obp0 := v } }
  | .obp1 => { s with ppu := { s.ppu with obp1 := v } }
  | .wy => { s with ppu := { s.ppu with wy := v } }
  | .wx => { s with ppu := { s.ppu with wx := v } }
  | .unimplemented => s

/-! ## The router -/

/-- `ProhibitedRead()` (R116). -/
def prohibitedRead (p : Ppu) : Byte := if p.inMode .oamScan || p.inMode .transfer then 0xFF else 0x00

/-- A bus read; `locked` says whether the PPU lockouts apply (they do for the CPU, R111, R115; not for the DMA engine, R122). -/
def busReadWith (locked : Bool) (s : State) (a : Word) : Byte :=
  let n := a.toNat
  match regionOf a with
  | .rom0 => romRead s.cart s.mapper n
  | .romX => romRead s.cart s.mapper n
  | .vram =>
    if locked && s.params.lockoutReadFF && s.ppu.inMode .transfer then 0xFF else s.vram.read (n - 0x8000)
  | .cartRam => cartRamRead s.cart s.mapper n
  | .wram0 => s.wram.read (n - 0xC000)
  | .wram1 => s.wram.read (n - 0xC000)
  | .echo => s.wram.read (n - 0x2000 - 0xC000)
  | .oam => if locked && s.params.lockoutReadFF && s.ppu.inMode .oamScan then 0xFF else s.oam.read (n - 0xFE00)
  | .prohibited => prohibitedRead s.ppu
  | .io => ioRead s (ioRegAt (n - 0xFF00))
  | .hram => s.hram.read (n - 0xFF80)
  | .ie => s.ie

/-- `BusRead(a)`, the CPU's `MemRead(a, 1)` (R102, R11). -/
def busRead (s : State) (a : Word) : Byte := busReadWith true s a

/-- `BusReadDma(a)` (R122). -/
def busReadDma (s : State) (a : Word) : Byte := busReadWith false s a

/-- `BusWrite(a, v)`, the CPU's `MemWrite(a, 1, v)` (R102, R11). -/
def busWrite (s : State) (a : Word) (v : Byte) : State :=
  let n := a.toNat
  match regionOf a with
  | .rom0 => { s with mapper := mapperRegWrite s.cart s.mapper n v }
  | .romX => { s with mapper := mapperRegWrite s.cart s.mapper n v }
  | .vram => if s.ppu.inMode .transfer then s else { s with vram := s.vram.write (n - 0x8000) v }
  | .cartRam => cartRamWrite s n v
  | .wram0 => { s with wram := s.wram.write (n - 0xC000) v }
  | .wram1 => { s with wram := s.wram.write (n - 0xC000) v }
  | .echo => { s with wram := s.wram.write (n - 0x2000 - 0xC000) v }
  | .oam => if s.ppu.inMode .oamScan then s else { s with oam := s.oam.write (n - 0xFE00) v }
  | .prohibited => s
  | .io => ioWrite s (ioRegAt (n - 0xFF00)) v
  | .hram => { s with hram := s.hram.write (n - 0xFF80) v }
  | .ie => { s with ie := v }

/-! ## 16-bit accesses -/

/-- `MemRead(a, 2)`: little-endian (R11, R104); at 0xFFFF the fault of R106. -/
def memRead16 (s : State) (a : Word) : Except Fault Word :=
  if a = 0xFFFF then .error (.wrapAccess16 a s.cpu.pc)
  else .ok (pairOf (busRead s (a + 1)) (busRead s a))

/-- `MemWrite(a, 2, v)`: the low byte at a, then the high byte at a + 1 (R11, R107); at 0xFFFF the fault of R106. -/
def memWrite16 (s : State) (a v : Word) : Except Fault State :=
  if a = 0xFFFF then .error (.wrapAccess16 a s.cpu.pc)
  else .ok (busWrite (busWrite s a (loByte v)) (a + 1) (hiByte v))

end Sys2Proof.Machine
end

