-- ==== Sys2Proof/Machine/Flags.lean ====
section
/-! DEFINITION. The flags Z, N, H, C (10_state.md R32 to R34) and every flag and result computation of the instruction files
41_alu8.md, 42_alu16.md and 43_rotate_shift_bit.md: operands as numbers, the exact result, then the narrowing. -/

namespace Sys2Proof.Machine

/-- The four significant bits of F (R32, R33). -/
structure Flags where
  z : Bool
  n : Bool
  h : Bool
  c : Bool
  deriving DecidableEq, Repr

/-- F as a byte: Z = F[7], N = F[6], H = F[5], C = F[4], the low nibble 0 (R32, R33). -/
def Flags.pack (fl : Flags) : Byte := flagBit fl.z 7 ||| flagBit fl.n 6 ||| flagBit fl.h 5 ||| flagBit fl.c 4

/-- The flags in a byte (R33). -/
def Flags.unpack (f : Byte) : Flags := { z := bit f 7, n := bit f 6, h := bit f 5, c := bit f 4 }

/-- `z(v)`: the low byte of the result is 0. -/
def zero8 (v : Byte) : Bool := decide (v = 0)

/-! ## 8-bit arithmetic and logic (41_alu8.md) -/

/-- ADD and ADC with carry in `cin` (R281, R282). -/
def add8 (a b : Byte) (cin : Bool) : Byte × Flags :=
  let res := a.toNat + b.toNat + cin.toNat
  let r := BitVec.ofNat 8 res
  (r,
    { z := zero8 r, n := false, h := decide (a.toNat % 16 + b.toNat % 16 + cin.toNat > 0xF), c := decide (res > 0xFF) })

/-- SUB, SBC and CP with borrow in `cin` (R283, R284, R288). -/
def sub8 (a b : Byte) (cin : Bool) : Byte × Flags :=
  let r := BitVec.ofInt 8 ((a.toNat : Int) - b.toNat - cin.toNat)
  (r,
    { z := zero8 r, n := true, h := decide (a.toNat % 16 < b.toNat % 16 + cin.toNat),
      c := decide (a.toNat < b.toNat + cin.toNat) })

/-- The flags of AND, XOR and OR: Z from the result, H as given (R285 to R287). -/
def logicFlags (r : Byte) (h : Bool) : Flags := { z := zero8 r, n := false, h := h, c := false }

/-- The accumulator operations: the new A and the flags; CP leaves A (R281 to R288). -/
def alu8 (op : AluOp) (a b : Byte) (fl : Flags) : Byte × Flags :=
  match op with
  | .add => add8 a b false
  | .adc => add8 a b fl.c
  | .sub => sub8 a b false
  | .sbc => sub8 a b fl.c
  | .and => (a &&& b, logicFlags (a &&& b) true)
  | .xor => (a ^^^ b, logicFlags (a ^^^ b) false)
  | .or => (a ||| b, logicFlags (a ||| b) false)
  | .cp => (a, (sub8 a b false).2)

/-- INC of a byte; C is kept (R289, R290). -/
def inc8 (o : Byte) (fl : Flags) : Byte × Flags :=
  (o + 1, { z := zero8 (o + 1), n := false, h := decide (o.toNat % 16 = 0xF), c := fl.c })

/-- DEC of a byte; C is kept (R291, R292). -/
def dec8 (o : Byte) (fl : Flags) : Byte × Flags :=
  (o - 1, { z := zero8 (o - 1), n := true, h := decide (o.toNat % 16 = 0), c := fl.c })

/-- DAA (R293): both tests read A before the adjustment; C is never cleared; N is kept. -/
def daa (a : Byte) (fl : Flags) : Byte × Flags :=
  let low := if fl.n then fl.h else fl.h || decide (a.toNat % 16 > 9)
  let high := if fl.n then fl.c else fl.c || decide (a.toNat > 0x99)
  let adj : Nat := (if low then 0x06 else 0x00) + (if high then 0x60 else 0x00)
  let r := if fl.n then BitVec.ofInt 8 ((a.toNat : Int) - (adj : Int)) else BitVec.ofNat 8 (a.toNat + adj)
  (r, { z := zero8 r, n := fl.n, h := false, c := high })

/-- CPL (R294). -/
def cpl (a : Byte) (fl : Flags) : Byte × Flags := (a ^^^ 0xFF, { fl with n := true, h := true })

/-- SCF (R295). -/
def scf (fl : Flags) : Flags := { fl with n := false, h := false, c := true }

/-- CCF (R296). -/
def ccf (fl : Flags) : Flags := { fl with n := false, h := false, c := !fl.c }

/-! ## 16-bit arithmetic (42_alu16.md) -/

/-- ADD HL,rr: H out of bit 11, C out of bit 15, Z kept (R330). -/
def add16 (h v : Word) (fl : Flags) : Word × Flags :=
  (BitVec.ofNat 16 (h.toNat + v.toNat),
    { fl with
      n := false
      h := decide (h.toNat % 0x1000 + v.toNat % 0x1000 > 0xFFF)
      c := decide (h.toNat + v.toNat > 0xFFFF) })

/-- `sext_16` of a byte (R9). -/
def sext16 (u : Byte) : Word := u.signExtend 16

/-- SP plus a signed byte: H and C from the unsigned addition of the low bytes, Z and N 0 (R333, R334). -/
def addSp (s : Word) (u : Byte) : Word × Flags :=
  (s + sext16 u,
    { z := false, n := false, h := decide (s.toNat % 16 + u.toNat % 16 > 0xF), c := decide (s.toNat % 256 + u.toNat > 0xFF) })

/-! ## Rotates, shifts and bits (43_rotate_shift_bit.md) -/

/-- The result and the carry out of a rotate or shift (R365 to R372); `cin` is the C flag before. -/
def rotate (op : RotOp) (v : Byte) (cin : Bool) : Byte × Bool :=
  match op with
  | .rlc => ((v <<< 1) ||| flagBit (bit v 7) 0, bit v 7)
  | .rrc => ((v >>> 1) ||| flagBit (bit v 0) 7, bit v 0)
  | .rl => ((v <<< 1) ||| flagBit cin 0, bit v 7)
  | .rr => ((v >>> 1) ||| flagBit cin 7, bit v 0)
  | .sla => (v <<< 1, bit v 7)
  | .sra => ((v >>> 1) ||| (v &&& 0x80), bit v 0)
  | .swap => ((v &&& 0x0F) <<< 4 ||| v >>> 4, false)
  | .srl => (v >>> 1, bit v 0)

/-- A prefixed rotate or shift: Z from the result (R365 to R372). -/
def rotateZ (op : RotOp) (v : Byte) (fl : Flags) : Byte × Flags :=
  let r := rotate op v fl.c
  (r.1, { z := zero8 r.1, n := false, h := false, c := r.2 })

/-- An accumulator rotate: Z always 0 (R360 to R363). -/
def rotateA (op : RotOp) (v : Byte) (fl : Flags) : Byte × Flags :=
  let r := rotate op v fl.c
  (r.1, { z := false, n := false, h := false, c := r.2 })

/-- BIT b: Z is the complement of the bit, C kept (R373). -/
def bitTest (b : Nat) (v : Byte) (fl : Flags) : Flags := { z := !bit v b, n := false, h := true, c := fl.c }

/-- RES b (R374). -/
def bitReset (b : Nat) (v : Byte) : Byte := v &&& (0xFF ^^^ ((1 : Byte) <<< b))

/-- SET b (R375). -/
def bitSet (b : Nat) (v : Byte) : Byte := v ||| ((1 : Byte) <<< b)

end Sys2Proof.Machine
end

