-- ==== Sys2Proof/Machine/Operands.lean ====
section
/-! DEFINITION. Operand forms: registers, pairs, the `(HL)` operand, conditions (10_state.md R30 to R36, 30_encoding.md R183 to
R185). All register reads and writes of instructions go through these. -/

namespace Sys2Proof.Machine

/-! ## F and the 8-bit registers -/

/-- A read of F: bits 3..0 read 0 (R32). -/
def Cpu.getF (c : Cpu) : Byte := c.f &&& 0xF0

/-- A write of F stores `v & 0xF0` (R32). -/
def Cpu.setF (c : Cpu) (v : Byte) : Cpu := { c with f := v &&& 0xF0 }

/-- The flags (R33). -/
def Cpu.flags (c : Cpu) : Flags := Flags.unpack c.f

/-- All four flags written. -/
def Cpu.setFlags (c : Cpu) (fl : Flags) : Cpu := { c with f := fl.pack }

/-- `x[r]` (R10). -/
def Cpu.get8 (c : Cpu) (r : R8) : Byte :=
  match r with
  | .b => c.b
  | .c => c.c
  | .d => c.d
  | .e => c.e
  | .h => c.h
  | .l => c.l
  | .a => c.a

/-- `x[r] <- v` (R10). -/
def Cpu.set8 (c : Cpu) (r : R8) (v : Byte) : Cpu :=
  match r with
  | .b => { c with b := v }
  | .c => { c with c := v }
  | .d => { c with d := v }
  | .e => { c with e := v }
  | .h => { c with h := v }
  | .l => { c with l := v }
  | .a => { c with a := v }

/-! ## Pairs (R31) -/

/-- HL = {H, L}. -/
def Cpu.hl (c : Cpu) : Word := pairOf c.h c.l

/-- Both halves of HL written at once. -/
def Cpu.setHl (c : Cpu) (v : Word) : Cpu := { c with h := hiByte v, l := loByte v }

/-- `x[r16(p)]` (R184). -/
def Cpu.get16 (c : Cpu) (r : R16) : Word :=
  match r with
  | .bc => pairOf c.b c.c
  | .de => pairOf c.d c.e
  | .hl => c.hl
  | .sp => c.sp

/-- `x[r16(p)] <- v` (R184, R31). -/
def Cpu.set16 (c : Cpu) (r : R16) (v : Word) : Cpu :=
  match r with
  | .bc => { c with b := hiByte v, c := loByte v }
  | .de => { c with d := hiByte v, e := loByte v }
  | .hl => c.setHl v
  | .sp => { c with sp := v }

/-- `x[r16stk(p)]` (R184); AF = {A, F}. -/
def Cpu.getStk (c : Cpu) (r : R16Stk) : Word :=
  match r with
  | .bc => pairOf c.b c.c
  | .de => pairOf c.d c.e
  | .hl => c.hl
  | .af => pairOf c.a c.getF

/-- `x[r16stk(p)] <- v` (R184, R251, R254): F takes the low byte without its low nibble. -/
def Cpu.setStk (c : Cpu) (r : R16Stk) (v : Word) : Cpu :=
  match r with
  | .bc => { c with b := hiByte v, c := loByte v }
  | .de => { c with d := hiByte v, e := loByte v }
  | .hl => c.setHl v
  | .af => ({ c with a := hiByte v } : Cpu).setF (loByte v)

/-- The address of an `r16mem` operand (R184). -/
def Cpu.memAddr (c : Cpu) (m : R16Mem) : Word :=
  match m with
  | .bc => pairOf c.b c.c
  | .de => pairOf c.d c.e
  | .hlInc => c.hl
  | .hlDec => c.hl

/-- HL after an `r16mem` access at address `a` (R184, R237 to R240). -/
def Cpu.memStep (c : Cpu) (m : R16Mem) (a : Word) : Cpu :=
  match m with
  | .bc => c
  | .de => c
  | .hlInc => c.setHl (a + 1)
  | .hlDec => c.setHl (a - 1)

/-! ## Conditions and the high page -/

/-- `cond(k)` (R185, R400). -/
def Cpu.holds (c : Cpu) (k : Cond) : Bool :=
  match k with
  | .nz => !c.flags.z
  | .z => c.flags.z
  | .nc => !c.flags.c
  | .c => c.flags.c

/-- `0xFF00 + v` (R186, R246 to R249). -/
def highPage (v : Byte) : Word := 0xFF00 + v.zeroExtend 16

/-! ## The operand of the 8-bit instructions (R183, R280, R364) -/

/-- `Get(z)`: a register, or the byte at HL. -/
def State.getOpnd (s : State) (o : Opnd8) : Byte :=
  match o with
  | .reg r => s.cpu.get8 r
  | .indHl => busRead s s.cpu.hl

/-- `Put(z, v)`: a register, or the byte at HL through the bus. -/
def State.putOpnd (s : State) (o : Opnd8) (v : Byte) : State :=
  match o with
  | .reg r => { s with cpu := s.cpu.set8 r v }
  | .indHl => busWrite s s.cpu.hl v

end Sys2Proof.Machine
end

