-- ==== Sys2Proof/Machine/Ops.lean ====
section
/-! DEFINITION. The shared operations the instruction meanings are made of, interrupt entry (60_exceptions.md R503) and the
return from it (44_control.md R412). Every operation ends with the pc and the cycle count the instruction's rule gives; all
effects land in the M-cycle the instruction starts in (R108), and `busy` holds the rest of its time slot (R520). -/

namespace Sys2Proof.Machine

/-- What a meaning answers. -/
abbrev Result := Host.Outcome State Fault Refusal

/-! ## Finishing an instruction -/

/-- `cycles <- n` (R12): the reported T-cycles as the remaining M-cycles of the slot, `n/4 - 1` (R520). -/
def Cpu.report (c : Cpu) (cycles : Nat) : Cpu := { c with busy := cycles / 4 - 1 }

/-- The pc advances by the length, and the cycle count is reported (R35). -/
def State.retire (s : State) (len : Word) (cycles : Nat) : State :=
  { s with cpu := ({ s.cpu with pc := s.cpu.pc + len } : Cpu).report cycles }

/-- The pc takes a target, and the cycle count is reported (R35, R411). -/
def State.jump (s : State) (target : Word) (cycles : Nat) : State :=
  { s with cpu := ({ s.cpu with pc := target } : Cpu).report cycles }

/-- The cycle count of the instruction or dispatch whose slot has just begun (R520, R521). -/
def State.reported (s : State) : Nat := (s.cpu.busy + 1) * 4

/-- A result that needs a 16-bit read at `a` (R106). -/
def withRead16 (s : State) (a : Word) (k : Word → Result) : Result :=
  match memRead16 s a with
  | .error f => .fault f
  | .ok v => k v

/-- The store of a word below SP and the new SP: PUSH, CALL, RST, interrupt entry (R252). -/
def pushWord (s : State) (v : Word) : Except Fault State :=
  match memWrite16 s (s.cpu.sp - 2) v with
  | .error f => .error f
  | .ok t => .ok { t with cpu := { t.cpu with sp := s.cpu.sp - 2 } }

/-- A result after a push. -/
def withPush (s : State) (v : Word) (k : State → Result) : Result :=
  match pushWord s v with
  | .error f => .fault f
  | .ok t => k t

/-- SP after a pop (R252). -/
def Cpu.popped (c : Cpu) : Cpu := { c with sp := c.sp + 2 }

/-! ## Loads (40_loads.md) -/

/-- LD r,r' (R230). -/
def ldReg (dst src : R8) (s : State) : Result :=
  .next (({ s with cpu := s.cpu.set8 dst (s.cpu.get8 src) } : State).retire 1 4)

/-- LD r,(HL) (R231). -/
def ldFromHl (dst : R8) (s : State) : Result :=
  .next (({ s with cpu := s.cpu.set8 dst (busRead s s.cpu.hl) } : State).retire 1 8)

/-- LD (HL),r (R232). -/
def ldToHl (r : R8) (s : State) : Result := .next ((busWrite s s.cpu.hl (s.cpu.get8 r)).retire 1 8)

/-- LD r,d8 (R233). -/
def ldImm (dst : R8) (n : Byte) (s : State) : Result := .next (({ s with cpu := s.cpu.set8 dst n } : State).retire 2 8)

/-- LD (HL),d8 (R234). -/
def ldHlImm (n : Byte) (s : State) : Result := .next ((busWrite s s.cpu.hl n).retire 2 12)

/-- LD A,(BC), (DE), (HL+), (HL-) (R235, R237, R238). -/
def ldAFrom (m : R16Mem) (s : State) : Result :=
  let a := s.cpu.memAddr m
  .next (({ s with cpu := ({ s.cpu with a := busRead s a } : Cpu).memStep m a } : State).retire 1 8)

/-- LD (BC), (DE), (HL+), (HL-),A (R236, R239, R240). -/
def ldATo (m : R16Mem) (s : State) : Result :=
  let a := s.cpu.memAddr m
  let t := busWrite s a s.cpu.a
  .next (({ t with cpu := t.cpu.memStep m a } : State).retire 1 8)

/-- A load of A from an address: LD A,(a16), LDH A,(a8), LD A,(C) (R241, R246, R248). -/
def ldAAddr (a : Word) (len : Word) (cycles : Nat) (s : State) : Result :=
  .next (({ s with cpu := { s.cpu with a := busRead s a } } : State).retire len cycles)

/-- A store of A to an address: LD (a16),A, LDH (a8),A, LD (C),A (R242, R247, R249). -/
def stAAddr (a : Word) (len : Word) (cycles : Nat) (s : State) : Result :=
  .next ((busWrite s a s.cpu.a).retire len cycles)

/-- LD rr,d16 (R243). -/
def ldPairImm (r : R16) (w : Word) (s : State) : Result := .next (({ s with cpu := s.cpu.set16 r w } : State).retire 3 12)

/-- LD (a16),SP (R244). -/
def stSp (w : Word) (s : State) : Result :=
  match memWrite16 s w s.cpu.sp with
  | .error f => .fault f
  | .ok t => .next (t.retire 3 20)

/-- LD SP,HL (R245). -/
def ldSp (s : State) : Result := .next (({ s with cpu := { s.cpu with sp := s.cpu.hl } } : State).retire 1 8)

/-- PUSH rr (R250). -/
def push (r : R16Stk) (s : State) : Result := withPush s (s.cpu.getStk r) (fun t => .next (t.retire 1 16))

/-- POP rr (R251, R254). -/
def pop (r : R16Stk) (s : State) : Result :=
  withRead16 s s.cpu.sp (fun v => .next (({ s with cpu := (s.cpu.setStk r v).popped } : State).retire 1 12))

/-! ## Arithmetic and logic (41_alu8.md, 42_alu16.md) -/

/-- A and the flags written. -/
def Cpu.setAF (c : Cpu) (r : Byte × Flags) : Cpu := ({ c with a := r.1 } : Cpu).setFlags r.2

/-- ALU A,r and ALU A,(HL) (R280 to R288). -/
def aluOpnd (op : AluOp) (o : Opnd8) (s : State) : Result :=
  .next (({ s with cpu := s.cpu.setAF (alu8 op s.cpu.a (s.getOpnd o) s.cpu.flags) } : State).retire 1
    (match o with | .reg _ => 4 | .indHl => 8))

/-- ALU A,d8 (R280 to R288). -/
def aluImm (op : AluOp) (n : Byte) (s : State) : Result :=
  .next (({ s with cpu := s.cpu.setAF (alu8 op s.cpu.a n s.cpu.flags) } : State).retire 2 8)

/-- A read-modify-write of an operand with its flags: the operand, then F (R289 to R292, R365 to R372). -/
def State.modify (s : State) (o : Opnd8) (r : Byte × Flags) : State :=
  let t := s.putOpnd o r.1
  { t with cpu := t.cpu.setFlags r.2 }

/-- INC r and INC (HL) (R289, R290). -/
def incOpnd (o : Opnd8) (s : State) : Result :=
  .next ((s.modify o (inc8 (s.getOpnd o) s.cpu.flags)).retire 1 (match o with | .reg _ => 4 | .indHl => 12))

/-- DEC r and DEC (HL) (R291, R292). -/
def decOpnd (o : Opnd8) (s : State) : Result :=
  .next ((s.modify o (dec8 (s.getOpnd o) s.cpu.flags)).retire 1 (match o with | .reg _ => 4 | .indHl => 12))

/-- A one-byte instruction on A and the flags: DAA, CPL, the accumulator rotates (R293, R294, R360 to R363). -/
def onAcc (f : Byte → Flags → Byte × Flags) (s : State) : Result :=
  .next (({ s with cpu := s.cpu.setAF (f s.cpu.a s.cpu.flags) } : State).retire 1 4)

/-- SCF and CCF (R295, R296). -/
def onFlags (f : Flags → Flags) (s : State) : Result :=
  .next (({ s with cpu := s.cpu.setFlags (f s.cpu.flags) } : State).retire 1 4)

/-- ADD HL,rr (R330). -/
def addToHl (r : R16) (s : State) : Result :=
  let x := add16 s.cpu.hl (s.cpu.get16 r) s.cpu.flags
  .next (({ s with cpu := (s.cpu.setHl x.1).setFlags x.2 } : State).retire 1 8)

/-- INC rr (R331). -/
def incPair (r : R16) (s : State) : Result :=
  .next (({ s with cpu := s.cpu.set16 r (s.cpu.get16 r + 1) } : State).retire 1 8)

/-- DEC rr (R332). -/
def decPair (r : R16) (s : State) : Result :=
  .next (({ s with cpu := s.cpu.set16 r (s.cpu.get16 r - 1) } : State).retire 1 8)

/-- ADD SP,e8 (R333). -/
def addSpImm (u : Byte) (s : State) : Result :=
  let x := addSp s.cpu.sp u
  .next (({ s with cpu := ({ s.cpu with sp := x.1 } : Cpu).setFlags x.2 } : State).retire 2 16)

/-- LD HL,SP+e8 (R334). -/
def ldHlSpImm (u : Byte) (s : State) : Result :=
  let x := addSp s.cpu.sp u
  .next (({ s with cpu := (s.cpu.setHl x.1).setFlags x.2 } : State).retire 2 12)

/-! ## The prefixed instructions (43_rotate_shift_bit.md) -/

/-- T-cycles of a prefixed read-modify-write (R364). -/
def prefixedCycles (o : Opnd8) : Nat :=
  match o with
  | .reg _ => 8
  | .indHl => 16

/-- RLC, RRC, RL, RR, SLA, SRA, SWAP, SRL (R365 to R372). -/
def rotOpnd (op : RotOp) (o : Opnd8) (s : State) : Result :=
  .next ((s.modify o (rotateZ op (s.getOpnd o) s.cpu.flags)).retire 2 (prefixedCycles o))

/-- BIT b,r: no write; the (HL) form takes 12 cycles (R373). -/
def bitOpnd (b : Nat) (o : Opnd8) (s : State) : Result :=
  .next (({ s with cpu := s.cpu.setFlags (bitTest b (s.getOpnd o) s.cpu.flags) } : State).retire 2
    (match o with | .reg _ => 8 | .indHl => 12))

/-- RES b,r (R374). -/
def resOpnd (b : Nat) (o : Opnd8) (s : State) : Result :=
  .next ((s.putOpnd o (bitReset b (s.getOpnd o))).retire 2 (prefixedCycles o))

/-- SET b,r (R375). -/
def setOpnd (b : Nat) (o : Opnd8) (s : State) : Result :=
  .next ((s.putOpnd o (bitSet b (s.getOpnd o))).retire 2 (prefixedCycles o))

/-! ## Control transfer (44_control.md) -/

/-- The target of a relative jump: `pc + 2 + sext_16(e8)` (R404). -/
def relTarget (pc : Word) (e : Byte) : Word := pc + 2 + sext16 e

/-- A call: the return address is pushed, then the pc takes the target (R406, R410). -/
def callTo (target ret : Word) (cycles : Nat) (s : State) : Result :=
  withPush s ret (fun t => .next (t.jump target cycles))

/-- A return: the pc takes the popped word (R408). -/
def returnTo (cycles : Nat) (s : State) : Result :=
  withRead16 s s.cpu.sp (fun v => .next (({ s with cpu := s.cpu.popped } : State).jump v cycles))

/-- A conditional transfer: taken when the condition holds; otherwise the pc passes the instruction (R400). -/
def whenCond (k : Cond) (len : Word) (notTaken : Nat) (taken : State → Result) (s : State) : Result :=
  if s.cpu.holds k then taken s else .next (s.retire len notTaken)

/-! ## Interrupt entry and return (60_exceptions.md §2) -/

/-- `IE & IF & 0x1F` (R502). -/
def State.serviceable (s : State) : Byte := s.ie &&& s.ifReg &&& 0x1F

/-- The lowest set bit of the serviceable sources (R503, R504). -/
def lowestSet (p : Byte) : Nat :=
  if bit p 0 then 0 else if bit p 1 then 1 else if bit p 2 then 2 else if bit p 3 then 3 else 4

/-- The vector of source n: `0x0040 + 8n` (R500). -/
def vectorOf (n : Nat) : Word := BitVec.ofNat 16 (0x0040 + 8 * n)

/-- TAKING AN INTERRUPT, the machine's one exception entry (R503): IF[n] clears, IME becomes Disabled, the pc is pushed (low byte
first), the pc takes the vector, 20 cycles. A push at 0xFFFF is the fault of R106, with nothing done. -/
def enterInterrupt (n : Nat) (s : State) : Result :=
  let t : State :=
    { s with ifReg := s.ifReg &&& ~~~ ((1 : Byte) <<< n), cpu := { s.cpu with ime := .disabled } }
  withPush t s.cpu.pc (fun u => .next (u.jump (vectorOf n) 20))

/-- RETI: RET, and IME goes to Enabled at once (R412). -/
def returnEnable (s : State) : Result :=
  withRead16 s s.cpu.sp
    (fun v => .next (({ s with cpu := { s.cpu.popped with ime := .enabled } } : State).jump v 16))

/-- `handle_interrupt()` (R503): with IME Enabled and a serviceable source, the entry of the lowest one; otherwise none. -/
def handleInterrupt (s : State) : Option Result :=
  if s.cpu.ime = .enabled ∧ s.serviceable ≠ 0 then some (enterInterrupt (lowestSet s.serviceable) s) else none

end Sys2Proof.Machine
end

