-- ==== Sys2Proof/Machine/Alu16.lean ====
section
/-! DEFINITION. 16-bit arithmetic (42_alu16.md): the meaning of every instruction of the family, one definition each. -/

namespace Sys2Proof.Machine

/-- ADD HL,BC (R330). -/
def execAddHlBc (s : State) : Result := addToHl .bc s

/-- ADD HL,DE (R330). -/
def execAddHlDe (s : State) : Result := addToHl .de s

/-- ADD HL,HL (R330). -/
def execAddHlHl (s : State) : Result := addToHl .hl s

/-- ADD HL,SP (R330). -/
def execAddHlSp (s : State) : Result := addToHl .sp s

/-- INC BC (R331). -/
def execIncBc (s : State) : Result := incPair .bc s

/-- INC DE (R331). -/
def execIncDe (s : State) : Result := incPair .de s

/-- INC HL (R331). -/
def execIncHl (s : State) : Result := incPair .hl s

/-- INC SP (R331). -/
def execIncSp (s : State) : Result := incPair .sp s

/-- DEC BC (R332). -/
def execDecBc (s : State) : Result := decPair .bc s

/-- DEC DE (R332). -/
def execDecDe (s : State) : Result := decPair .de s

/-- DEC HL (R332). -/
def execDecHl (s : State) : Result := decPair .hl s

/-- DEC SP (R332). -/
def execDecSp (s : State) : Result := decPair .sp s

/-- ADD SP,e8 (R333). -/
def execAddSpE8 (e : Byte) (s : State) : Result := addSpImm e s

/-- LD HL,SP+e8 (R334). -/
def execLdHlSpE8 (e : Byte) (s : State) : Result := ldHlSpImm e s

end Sys2Proof.Machine
end

