-- ==== Sys2Proof/Machine/Alu8.lean ====
section
/-! DEFINITION. 8-bit arithmetic and logic (41_alu8.md): the meaning of every instruction of the family, one definition each. -/

namespace Sys2Proof.Machine

/-- ADD A,B (R281). -/
def execAddAB (s : State) : Result := aluOpnd .add (.reg .b) s

/-- ADD A,C (R281). -/
def execAddAC (s : State) : Result := aluOpnd .add (.reg .c) s

/-- ADD A,D (R281). -/
def execAddAD (s : State) : Result := aluOpnd .add (.reg .d) s

/-- ADD A,E (R281). -/
def execAddAE (s : State) : Result := aluOpnd .add (.reg .e) s

/-- ADD A,H (R281). -/
def execAddAH (s : State) : Result := aluOpnd .add (.reg .h) s

/-- ADD A,L (R281). -/
def execAddAL (s : State) : Result := aluOpnd .add (.reg .l) s

/-- ADD A,(HL) (R281). -/
def execAddAIndHl (s : State) : Result := aluOpnd .add .indHl s

/-- ADD A,A (R281). -/
def execAddAA (s : State) : Result := aluOpnd .add (.reg .a) s

/-- ADD A,d8 (R281). -/
def execAddAD8 (n : Byte) (s : State) : Result := aluImm .add n s

/-- ADC A,B (R282). -/
def execAdcAB (s : State) : Result := aluOpnd .adc (.reg .b) s

/-- ADC A,C (R282). -/
def execAdcAC (s : State) : Result := aluOpnd .adc (.reg .c) s

/-- ADC A,D (R282). -/
def execAdcAD (s : State) : Result := aluOpnd .adc (.reg .d) s

/-- ADC A,E (R282). -/
def execAdcAE (s : State) : Result := aluOpnd .adc (.reg .e) s

/-- ADC A,H (R282). -/
def execAdcAH (s : State) : Result := aluOpnd .adc (.reg .h) s

/-- ADC A,L (R282). -/
def execAdcAL (s : State) : Result := aluOpnd .adc (.reg .l) s

/-- ADC A,(HL) (R282). -/
def execAdcAIndHl (s : State) : Result := aluOpnd .adc .indHl s

/-- ADC A,A (R282). -/
def execAdcAA (s : State) : Result := aluOpnd .adc (.reg .a) s

/-- ADC A,d8 (R282). -/
def execAdcAD8 (n : Byte) (s : State) : Result := aluImm .adc n s

/-- SUB A,B (R283). -/
def execSubAB (s : State) : Result := aluOpnd .sub (.reg .b) s

/-- SUB A,C (R283). -/
def execSubAC (s : State) : Result := aluOpnd .sub (.reg .c) s

/-- SUB A,D (R283). -/
def execSubAD (s : State) : Result := aluOpnd .sub (.reg .d) s

/-- SUB A,E (R283). -/
def execSubAE (s : State) : Result := aluOpnd .sub (.reg .e) s

/-- SUB A,H (R283). -/
def execSubAH (s : State) : Result := aluOpnd .sub (.reg .h) s

/-- SUB A,L (R283). -/
def execSubAL (s : State) : Result := aluOpnd .sub (.reg .l) s

/-- SUB A,(HL) (R283). -/
def execSubAIndHl (s : State) : Result := aluOpnd .sub .indHl s

/-- SUB A,A (R283). -/
def execSubAA (s : State) : Result := aluOpnd .sub (.reg .a) s

/-- SUB A,d8 (R283). -/
def execSubAD8 (n : Byte) (s : State) : Result := aluImm .sub n s

/-- SBC A,B (R284). -/
def execSbcAB (s : State) : Result := aluOpnd .sbc (.reg .b) s

/-- SBC A,C (R284). -/
def execSbcAC (s : State) : Result := aluOpnd .sbc (.reg .c) s

/-- SBC A,D (R284). -/
def execSbcAD (s : State) : Result := aluOpnd .sbc (.reg .d) s

/-- SBC A,E (R284). -/
def execSbcAE (s : State) : Result := aluOpnd .sbc (.reg .e) s

/-- SBC A,H (R284). -/
def execSbcAH (s : State) : Result := aluOpnd .sbc (.reg .h) s

/-- SBC A,L (R284). -/
def execSbcAL (s : State) : Result := aluOpnd .sbc (.reg .l) s

/-- SBC A,(HL) (R284). -/
def execSbcAIndHl (s : State) : Result := aluOpnd .sbc .indHl s

/-- SBC A,A (R284). -/
def execSbcAA (s : State) : Result := aluOpnd .sbc (.reg .a) s

/-- SBC A,d8 (R284). -/
def execSbcAD8 (n : Byte) (s : State) : Result := aluImm .sbc n s

/-- AND A,B (R285). -/
def execAndAB (s : State) : Result := aluOpnd .and (.reg .b) s

/-- AND A,C (R285). -/
def execAndAC (s : State) : Result := aluOpnd .and (.reg .c) s

/-- AND A,D (R285). -/
def execAndAD (s : State) : Result := aluOpnd .and (.reg .d) s

/-- AND A,E (R285). -/
def execAndAE (s : State) : Result := aluOpnd .and (.reg .e) s

/-- AND A,H (R285). -/
def execAndAH (s : State) : Result := aluOpnd .and (.reg .h) s

/-- AND A,L (R285). -/
def execAndAL (s : State) : Result := aluOpnd .and (.reg .l) s

/-- AND A,(HL) (R285). -/
def execAndAIndHl (s : State) : Result := aluOpnd .and .indHl s

/-- AND A,A (R285). -/
def execAndAA (s : State) : Result := aluOpnd .and (.reg .a) s

/-- AND A,d8 (R285). -/
def execAndAD8 (n : Byte) (s : State) : Result := aluImm .and n s

/-- XOR A,B (R286). -/
def execXorAB (s : State) : Result := aluOpnd .xor (.reg .b) s

/-- XOR A,C (R286). -/
def execXorAC (s : State) : Result := aluOpnd .xor (.reg .c) s

/-- XOR A,D (R286). -/
def execXorAD (s : State) : Result := aluOpnd .xor (.reg .d) s

/-- XOR A,E (R286). -/
def execXorAE (s : State) : Result := aluOpnd .xor (.reg .e) s

/-- XOR A,H (R286). -/
def execXorAH (s : State) : Result := aluOpnd .xor (.reg .h) s

/-- XOR A,L (R286). -/
def execXorAL (s : State) : Result := aluOpnd .xor (.reg .l) s

/-- XOR A,(HL) (R286). -/
def execXorAIndHl (s : State) : Result := aluOpnd .xor .indHl s

/-- XOR A,A (R286). -/
def execXorAA (s : State) : Result := aluOpnd .xor (.reg .a) s

/-- XOR A,d8 (R286). -/
def execXorAD8 (n : Byte) (s : State) : Result := aluImm .xor n s

/-- OR A,B (R287). -/
def execOrAB (s : State) : Result := aluOpnd .or (.reg .b) s

/-- OR A,C (R287). -/
def execOrAC (s : State) : Result := aluOpnd .or (.reg .c) s

/-- OR A,D (R287). -/
def execOrAD (s : State) : Result := aluOpnd .or (.reg .d) s

/-- OR A,E (R287). -/
def execOrAE (s : State) : Result := aluOpnd .or (.reg .e) s

/-- OR A,H (R287). -/
def execOrAH (s : State) : Result := aluOpnd .or (.reg .h) s

/-- OR A,L (R287). -/
def execOrAL (s : State) : Result := aluOpnd .or (.reg .l) s

/-- OR A,(HL) (R287). -/
def execOrAIndHl (s : State) : Result := aluOpnd .or .indHl s

/-- OR A,A (R287). -/
def execOrAA (s : State) : Result := aluOpnd .or (.reg .a) s

/-- OR A,d8 (R287). -/
def execOrAD8 (n : Byte) (s : State) : Result := aluImm .or n s

/-- CP A,B (R288). -/
def execCpAB (s : State) : Result := aluOpnd .cp (.reg .b) s

/-- CP A,C (R288). -/
def execCpAC (s : State) : Result := aluOpnd .cp (.reg .c) s

/-- CP A,D (R288). -/
def execCpAD (s : State) : Result := aluOpnd .cp (.reg .d) s

/-- CP A,E (R288). -/
def execCpAE (s : State) : Result := aluOpnd .cp (.reg .e) s

/-- CP A,H (R288). -/
def execCpAH (s : State) : Result := aluOpnd .cp (.reg .h) s

/-- CP A,L (R288). -/
def execCpAL (s : State) : Result := aluOpnd .cp (.reg .l) s

/-- CP A,(HL) (R288). -/
def execCpAIndHl (s : State) : Result := aluOpnd .cp .indHl s

/-- CP A,A (R288). -/
def execCpAA (s : State) : Result := aluOpnd .cp (.reg .a) s

/-- CP A,d8 (R288). -/
def execCpAD8 (n : Byte) (s : State) : Result := aluImm .cp n s

/-- INC B (R289). -/
def execIncB (s : State) : Result := incOpnd (.reg .b) s

/-- INC C (R289). -/
def execIncC (s : State) : Result := incOpnd (.reg .c) s

/-- INC D (R289). -/
def execIncD (s : State) : Result := incOpnd (.reg .d) s

/-- INC E (R289). -/
def execIncE (s : State) : Result := incOpnd (.reg .e) s

/-- INC H (R289). -/
def execIncH (s : State) : Result := incOpnd (.reg .h) s

/-- INC L (R289). -/
def execIncL (s : State) : Result := incOpnd (.reg .l) s

/-- INC A (R289). -/
def execIncA (s : State) : Result := incOpnd (.reg .a) s

/-- INC (HL) (R290). -/
def execIncIndHl (s : State) : Result := incOpnd .indHl s

/-- DEC B (R291). -/
def execDecB (s : State) : Result := decOpnd (.reg .b) s

/-- DEC C (R291). -/
def execDecC (s : State) : Result := decOpnd (.reg .c) s

/-- DEC D (R291). -/
def execDecD (s : State) : Result := decOpnd (.reg .d) s

/-- DEC E (R291). -/
def execDecE (s : State) : Result := decOpnd (.reg .e) s

/-- DEC H (R291). -/
def execDecH (s : State) : Result := decOpnd (.reg .h) s

/-- DEC L (R291). -/
def execDecL (s : State) : Result := decOpnd (.reg .l) s

/-- DEC A (R291). -/
def execDecA (s : State) : Result := decOpnd (.reg .a) s

/-- DEC (HL) (R292). -/
def execDecIndHl (s : State) : Result := decOpnd .indHl s

/-- DAA (R293). -/
def execDaa (s : State) : Result := onAcc daa s

/-- CPL (R294). -/
def execCpl (s : State) : Result := onAcc cpl s

/-- SCF (R295). -/
def execScf (s : State) : Result := onFlags scf s

/-- CCF (R296). -/
def execCcf (s : State) : Result := onFlags ccf s

end Sys2Proof.Machine
end

