-- ==== Sys2Proof/Machine/Prefixed.lean ====
section
/-! DEFINITION. The prefix byte: executing the prefixed instruction that a second byte names (45_system.md R445). -/

namespace Sys2Proof.Machine

/-- "execute the prefixed instruction op2" (R445): the second byte's fields select the operation, the bit number and the operand
(43_rotate_shift_bit.md R364, R376 (e)). -/
def prefixed (op2 : Byte) (s : State) : Result :=
  let o := opnd8 (fieldZ op2)
  match fieldX op2 with
  | 0 => rotOpnd (rotOp (fieldY op2)) o s
  | 1 => bitOpnd (fieldY op2) o s
  | 2 => resOpnd (fieldY op2) o s
  | _ => setOpnd (fieldY op2) o s

end Sys2Proof.Machine
end

