-- ==== Sys2Proof/Machine/Bits.lean ====
section
/-! DEFINITION. Rotates, shifts and bit operations, and the prefix byte (43_rotate_shift_bit.md, 45_system.md R445): the meaning of every instruction of the family, one definition each. -/

namespace Sys2Proof.Machine

/-- RLCA (R360). -/
def execRlca (s : State) : Result := onAcc (rotateA .rlc) s

/-- RRCA (R361). -/
def execRrca (s : State) : Result := onAcc (rotateA .rrc) s

/-- RLA (R362). -/
def execRla (s : State) : Result := onAcc (rotateA .rl) s

/-- RRA (R363). -/
def execRra (s : State) : Result := onAcc (rotateA .rr) s

/-- RLC B (R365). -/
def execRlcB (s : State) : Result := rotOpnd .rlc (.reg .b) s

/-- RLC C (R365). -/
def execRlcC (s : State) : Result := rotOpnd .rlc (.reg .c) s

/-- RLC D (R365). -/
def execRlcD (s : State) : Result := rotOpnd .rlc (.reg .d) s

/-- RLC E (R365). -/
def execRlcE (s : State) : Result := rotOpnd .rlc (.reg .e) s

/-- RLC H (R365). -/
def execRlcH (s : State) : Result := rotOpnd .rlc (.reg .h) s

/-- RLC L (R365). -/
def execRlcL (s : State) : Result := rotOpnd .rlc (.reg .l) s

/-- RLC (HL) (R365). -/
def execRlcIndHl (s : State) : Result := rotOpnd .rlc .indHl s

/-- RLC A (R365). -/
def execRlcA (s : State) : Result := rotOpnd .rlc (.reg .a) s

/-- RRC B (R366). -/
def execRrcB (s : State) : Result := rotOpnd .rrc (.reg .b) s

/-- RRC C (R366). -/
def execRrcC (s : State) : Result := rotOpnd .rrc (.reg .c) s

/-- RRC D (R366). -/
def execRrcD (s : State) : Result := rotOpnd .rrc (.reg .d) s

/-- RRC E (R366). -/
def execRrcE (s : State) : Result := rotOpnd .rrc (.reg .e) s

/-- RRC H (R366). -/
def execRrcH (s : State) : Result := rotOpnd .rrc (.reg .h) s

/-- RRC L (R366). -/
def execRrcL (s : State) : Result := rotOpnd .rrc (.reg .l) s

/-- RRC (HL) (R366). -/
def execRrcIndHl (s : State) : Result := rotOpnd .rrc .indHl s

/-- RRC A (R366). -/
def execRrcA (s : State) : Result := rotOpnd .rrc (.reg .a) s

/-- RL B (R367). -/
def execRlB (s : State) : Result := rotOpnd .rl (.reg .b) s

/-- RL C (R367). -/
def execRlC (s : State) : Result := rotOpnd .rl (.reg .c) s

/-- RL D (R367). -/
def execRlD (s : State) : Result := rotOpnd .rl (.reg .d) s

/-- RL E (R367). -/
def execRlE (s : State) : Result := rotOpnd .rl (.reg .e) s

/-- RL H (R367). -/
def execRlH (s : State) : Result := rotOpnd .rl (.reg .h) s

/-- RL L (R367). -/
def execRlL (s : State) : Result := rotOpnd .rl (.reg .l) s

/-- RL (HL) (R367). -/
def execRlIndHl (s : State) : Result := rotOpnd .rl .indHl s

/-- RL A (R367). -/
def execRlA (s : State) : Result := rotOpnd .rl (.reg .a) s

/-- RR B (R368). -/
def execRrB (s : State) : Result := rotOpnd .rr (.reg .b) s

/-- RR C (R368). -/
def execRrC (s : State) : Result := rotOpnd .rr (.reg .c) s

/-- RR D (R368). -/
def execRrD (s : State) : Result := rotOpnd .rr (.reg .d) s

/-- RR E (R368). -/
def execRrE (s : State) : Result := rotOpnd .rr (.reg .e) s

/-- RR H (R368). -/
def execRrH (s : State) : Result := rotOpnd .rr (.reg .h) s

/-- RR L (R368). -/
def execRrL (s : State) : Result := rotOpnd .rr (.reg .l) s

/-- RR (HL) (R368). -/
def execRrIndHl (s : State) : Result := rotOpnd .rr .indHl s

/-- RR A (R368). -/
def execRrA (s : State) : Result := rotOpnd .rr (.reg .a) s

/-- SLA B (R369). -/
def execSlaB (s : State) : Result := rotOpnd .sla (.reg .b) s

/-- SLA C (R369). -/
def execSlaC (s : State) : Result := rotOpnd .sla (.reg .c) s

/-- SLA D (R369). -/
def execSlaD (s : State) : Result := rotOpnd .sla (.reg .d) s

/-- SLA E (R369). -/
def execSlaE (s : State) : Result := rotOpnd .sla (.reg .e) s

/-- SLA H (R369). -/
def execSlaH (s : State) : Result := rotOpnd .sla (.reg .h) s

/-- SLA L (R369). -/
def execSlaL (s : State) : Result := rotOpnd .sla (.reg .l) s

/-- SLA (HL) (R369). -/
def execSlaIndHl (s : State) : Result := rotOpnd .sla .indHl s

/-- SLA A (R369). -/
def execSlaA (s : State) : Result := rotOpnd .sla (.reg .a) s

/-- SRA B (R370). -/
def execSraB (s : State) : Result := rotOpnd .sra (.reg .b) s

/-- SRA C (R370). -/
def execSraC (s : State) : Result := rotOpnd .sra (.reg .c) s

/-- SRA D (R370). -/
def execSraD (s : State) : Result := rotOpnd .sra (.reg .d) s

/-- SRA E (R370). -/
def execSraE (s : State) : Result := rotOpnd .sra (.reg .e) s

/-- SRA H (R370). -/
def execSraH (s : State) : Result := rotOpnd .sra (.reg .h) s

/-- SRA L (R370). -/
def execSraL (s : State) : Result := rotOpnd .sra (.reg .l) s

/-- SRA (HL) (R370). -/
def execSraIndHl (s : State) : Result := rotOpnd .sra .indHl s

/-- SRA A (R370). -/
def execSraA (s : State) : Result := rotOpnd .sra (.reg .a) s

/-- SWAP B (R371). -/
def execSwapB (s : State) : Result := rotOpnd .swap (.reg .b) s

/-- SWAP C (R371). -/
def execSwapC (s : State) : Result := rotOpnd .swap (.reg .c) s

/-- SWAP D (R371). -/
def execSwapD (s : State) : Result := rotOpnd .swap (.reg .d) s

/-- SWAP E (R371). -/
def execSwapE (s : State) : Result := rotOpnd .swap (.reg .e) s

/-- SWAP H (R371). -/
def execSwapH (s : State) : Result := rotOpnd .swap (.reg .h) s

/-- SWAP L (R371). -/
def execSwapL (s : State) : Result := rotOpnd .swap (.reg .l) s

/-- SWAP (HL) (R371). -/
def execSwapIndHl (s : State) : Result := rotOpnd .swap .indHl s

/-- SWAP A (R371). -/
def execSwapA (s : State) : Result := rotOpnd .swap (.reg .a) s

/-- SRL B (R372). -/
def execSrlB (s : State) : Result := rotOpnd .srl (.reg .b) s

/-- SRL C (R372). -/
def execSrlC (s : State) : Result := rotOpnd .srl (.reg .c) s

/-- SRL D (R372). -/
def execSrlD (s : State) : Result := rotOpnd .srl (.reg .d) s

/-- SRL E (R372). -/
def execSrlE (s : State) : Result := rotOpnd .srl (.reg .e) s

/-- SRL H (R372). -/
def execSrlH (s : State) : Result := rotOpnd .srl (.reg .h) s

/-- SRL L (R372). -/
def execSrlL (s : State) : Result := rotOpnd .srl (.reg .l) s

/-- SRL (HL) (R372). -/
def execSrlIndHl (s : State) : Result := rotOpnd .srl .indHl s

/-- SRL A (R372). -/
def execSrlA (s : State) : Result := rotOpnd .srl (.reg .a) s

/-- BIT 0,B (R373). -/
def execBit0B (s : State) : Result := bitOpnd 0 (.reg .b) s

/-- BIT 0,C (R373). -/
def execBit0C (s : State) : Result := bitOpnd 0 (.reg .c) s

/-- BIT 0,D (R373). -/
def execBit0D (s : State) : Result := bitOpnd 0 (.reg .d) s

/-- BIT 0,E (R373). -/
def execBit0E (s : State) : Result := bitOpnd 0 (.reg .e) s

/-- BIT 0,H (R373). -/
def execBit0H (s : State) : Result := bitOpnd 0 (.reg .h) s

/-- BIT 0,L (R373). -/
def execBit0L (s : State) : Result := bitOpnd 0 (.reg .l) s

/-- BIT 0,(HL) (R373). -/
def execBit0IndHl (s : State) : Result := bitOpnd 0 .indHl s

/-- BIT 0,A (R373). -/
def execBit0A (s : State) : Result := bitOpnd 0 (.reg .a) s

/-- BIT 1,B (R373). -/
def execBit1B (s : State) : Result := bitOpnd 1 (.reg .b) s

/-- BIT 1,C (R373). -/
def execBit1C (s : State) : Result := bitOpnd 1 (.reg .c) s

/-- BIT 1,D (R373). -/
def execBit1D (s : State) : Result := bitOpnd 1 (.reg .d) s

/-- BIT 1,E (R373). -/
def execBit1E (s : State) : Result := bitOpnd 1 (.reg .e) s

/-- BIT 1,H (R373). -/
def execBit1H (s : State) : Result := bitOpnd 1 (.reg .h) s

/-- BIT 1,L (R373). -/
def execBit1L (s : State) : Result := bitOpnd 1 (.reg .l) s

/-- BIT 1,(HL) (R373). -/
def execBit1IndHl (s : State) : Result := bitOpnd 1 .indHl s

/-- BIT 1,A (R373). -/
def execBit1A (s : State) : Result := bitOpnd 1 (.reg .a) s

/-- BIT 2,B (R373). -/
def execBit2B (s : State) : Result := bitOpnd 2 (.reg .b) s

/-- BIT 2,C (R373). -/
def execBit2C (s : State) : Result := bitOpnd 2 (.reg .c) s

/-- BIT 2,D (R373). -/
def execBit2D (s : State) : Result := bitOpnd 2 (.reg .d) s

/-- BIT 2,E (R373). -/
def execBit2E (s : State) : Result := bitOpnd 2 (.reg .e) s

/-- BIT 2,H (R373). -/
def execBit2H (s : State) : Result := bitOpnd 2 (.reg .h) s

/-- BIT 2,L (R373). -/
def execBit2L (s : State) : Result := bitOpnd 2 (.reg .l) s

/-- BIT 2,(HL) (R373). -/
def execBit2IndHl (s : State) : Result := bitOpnd 2 .indHl s

/-- BIT 2,A (R373). -/
def execBit2A (s : State) : Result := bitOpnd 2 (.reg .a) s

/-- BIT 3,B (R373). -/
def execBit3B (s : State) : Result := bitOpnd 3 (.reg .b) s

/-- BIT 3,C (R373). -/
def execBit3C (s : State) : Result := bitOpnd 3 (.reg .c) s

/-- BIT 3,D (R373). -/
def execBit3D (s : State) : Result := bitOpnd 3 (.reg .d) s

/-- BIT 3,E (R373). -/
def execBit3E (s : State) : Result := bitOpnd 3 (.reg .e) s

/-- BIT 3,H (R373). -/
def execBit3H (s : State) : Result := bitOpnd 3 (.reg .h) s

/-- BIT 3,L (R373). -/
def execBit3L (s : State) : Result := bitOpnd 3 (.reg .l) s

/-- BIT 3,(HL) (R373). -/
def execBit3IndHl (s : State) : Result := bitOpnd 3 .indHl s

/-- BIT 3,A (R373). -/
def execBit3A (s : State) : Result := bitOpnd 3 (.reg .a) s

/-- BIT 4,B (R373). -/
def execBit4B (s : State) : Result := bitOpnd 4 (.reg .b) s

/-- BIT 4,C (R373). -/
def execBit4C (s : State) : Result := bitOpnd 4 (.reg .c) s

/-- BIT 4,D (R373). -/
def execBit4D (s : State) : Result := bitOpnd 4 (.reg .d) s

/-- BIT 4,E (R373). -/
def execBit4E (s : State) : Result := bitOpnd 4 (.reg .e) s

/-- BIT 4,H (R373). -/
def execBit4H (s : State) : Result := bitOpnd 4 (.reg .h) s

/-- BIT 4,L (R373). -/
def execBit4L (s : State) : Result := bitOpnd 4 (.reg .l) s

/-- BIT 4,(HL) (R373). -/
def execBit4IndHl (s : State) : Result := bitOpnd 4 .indHl s

/-- BIT 4,A (R373). -/
def execBit4A (s : State) : Result := bitOpnd 4 (.reg .a) s

/-- BIT 5,B (R373). -/
def execBit5B (s : State) : Result := bitOpnd 5 (.reg .b) s

/-- BIT 5,C (R373). -/
def execBit5C (s : State) : Result := bitOpnd 5 (.reg .c) s

/-- BIT 5,D (R373). -/
def execBit5D (s : State) : Result := bitOpnd 5 (.reg .d) s

/-- BIT 5,E (R373). -/
def execBit5E (s : State) : Result := bitOpnd 5 (.reg .e) s

/-- BIT 5,H (R373). -/
def execBit5H (s : State) : Result := bitOpnd 5 (.reg .h) s

/-- BIT 5,L (R373). -/
def execBit5L (s : State) : Result := bitOpnd 5 (.reg .l) s

/-- BIT 5,(HL) (R373). -/
def execBit5IndHl (s : State) : Result := bitOpnd 5 .indHl s

/-- BIT 5,A (R373). -/
def execBit5A (s : State) : Result := bitOpnd 5 (.reg .a) s

/-- BIT 6,B (R373). -/
def execBit6B (s : State) : Result := bitOpnd 6 (.reg .b) s

/-- BIT 6,C (R373). -/
def execBit6C (s : State) : Result := bitOpnd 6 (.reg .c) s

/-- BIT 6,D (R373). -/
def execBit6D (s : State) : Result := bitOpnd 6 (.reg .d) s

/-- BIT 6,E (R373). -/
def execBit6E (s : State) : Result := bitOpnd 6 (.reg .e) s

/-- BIT 6,H (R373). -/
def execBit6H (s : State) : Result := bitOpnd 6 (.reg .h) s

/-- BIT 6,L (R373). -/
def execBit6L (s : State) : Result := bitOpnd 6 (.reg .l) s

/-- BIT 6,(HL) (R373). -/
def execBit6IndHl (s : State) : Result := bitOpnd 6 .indHl s

/-- BIT 6,A (R373). -/
def execBit6A (s : State) : Result := bitOpnd 6 (.reg .a) s

/-- BIT 7,B (R373). -/
def execBit7B (s : State) : Result := bitOpnd 7 (.reg .b) s

/-- BIT 7,C (R373). -/
def execBit7C (s : State) : Result := bitOpnd 7 (.reg .c) s

/-- BIT 7,D (R373). -/
def execBit7D (s : State) : Result := bitOpnd 7 (.reg .d) s

/-- BIT 7,E (R373). -/
def execBit7E (s : State) : Result := bitOpnd 7 (.reg .e) s

/-- BIT 7,H (R373). -/
def execBit7H (s : State) : Result := bitOpnd 7 (.reg .h) s

/-- BIT 7,L (R373). -/
def execBit7L (s : State) : Result := bitOpnd 7 (.reg .l) s

/-- BIT 7,(HL) (R373). -/
def execBit7IndHl (s : State) : Result := bitOpnd 7 .indHl s

/-- BIT 7,A (R373). -/
def execBit7A (s : State) : Result := bitOpnd 7 (.reg .a) s

/-- RES 0,B (R374). -/
def execRes0B (s : State) : Result := resOpnd 0 (.reg .b) s

/-- RES 0,C (R374). -/
def execRes0C (s : State) : Result := resOpnd 0 (.reg .c) s

/-- RES 0,D (R374). -/
def execRes0D (s : State) : Result := resOpnd 0 (.reg .d) s

/-- RES 0,E (R374). -/
def execRes0E (s : State) : Result := resOpnd 0 (.reg .e) s

/-- RES 0,H (R374). -/
def execRes0H (s : State) : Result := resOpnd 0 (.reg .h) s

/-- RES 0,L (R374). -/
def execRes0L (s : State) : Result := resOpnd 0 (.reg .l) s

/-- RES 0,(HL) (R374). -/
def execRes0IndHl (s : State) : Result := resOpnd 0 .indHl s

/-- RES 0,A (R374). -/
def execRes0A (s : State) : Result := resOpnd 0 (.reg .a) s

/-- RES 1,B (R374). -/
def execRes1B (s : State) : Result := resOpnd 1 (.reg .b) s

/-- RES 1,C (R374). -/
def execRes1C (s : State) : Result := resOpnd 1 (.reg .c) s

/-- RES 1,D (R374). -/
def execRes1D (s : State) : Result := resOpnd 1 (.reg .d) s

/-- RES 1,E (R374). -/
def execRes1E (s : State) : Result := resOpnd 1 (.reg .e) s

/-- RES 1,H (R374). -/
def execRes1H (s : State) : Result := resOpnd 1 (.reg .h) s

/-- RES 1,L (R374). -/
def execRes1L (s : State) : Result := resOpnd 1 (.reg .l) s

/-- RES 1,(HL) (R374). -/
def execRes1IndHl (s : State) : Result := resOpnd 1 .indHl s

/-- RES 1,A (R374). -/
def execRes1A (s : State) : Result := resOpnd 1 (.reg .a) s

/-- RES 2,B (R374). -/
def execRes2B (s : State) : Result := resOpnd 2 (.reg .b) s

/-- RES 2,C (R374). -/
def execRes2C (s : State) : Result := resOpnd 2 (.reg .c) s

/-- RES 2,D (R374). -/
def execRes2D (s : State) : Result := resOpnd 2 (.reg .d) s

/-- RES 2,E (R374). -/
def execRes2E (s : State) : Result := resOpnd 2 (.reg .e) s

/-- RES 2,H (R374). -/
def execRes2H (s : State) : Result := resOpnd 2 (.reg .h) s

/-- RES 2,L (R374). -/
def execRes2L (s : State) : Result := resOpnd 2 (.reg .l) s

/-- RES 2,(HL) (R374). -/
def execRes2IndHl (s : State) : Result := resOpnd 2 .indHl s

/-- RES 2,A (R374). -/
def execRes2A (s : State) : Result := resOpnd 2 (.reg .a) s

/-- RES 3,B (R374). -/
def execRes3B (s : State) : Result := resOpnd 3 (.reg .b) s

/-- RES 3,C (R374). -/
def execRes3C (s : State) : Result := resOpnd 3 (.reg .c) s

/-- RES 3,D (R374). -/
def execRes3D (s : State) : Result := resOpnd 3 (.reg .d) s

/-- RES 3,E (R374). -/
def execRes3E (s : State) : Result := resOpnd 3 (.reg .e) s

/-- RES 3,H (R374). -/
def execRes3H (s : State) : Result := resOpnd 3 (.reg .h) s

/-- RES 3,L (R374). -/
def execRes3L (s : State) : Result := resOpnd 3 (.reg .l) s

/-- RES 3,(HL) (R374). -/
def execRes3IndHl (s : State) : Result := resOpnd 3 .indHl s

/-- RES 3,A (R374). -/
def execRes3A (s : State) : Result := resOpnd 3 (.reg .a) s

/-- RES 4,B (R374). -/
def execRes4B (s : State) : Result := resOpnd 4 (.reg .b) s

/-- RES 4,C (R374). -/
def execRes4C (s : State) : Result := resOpnd 4 (.reg .c) s

/-- RES 4,D (R374). -/
def execRes4D (s : State) : Result := resOpnd 4 (.reg .d) s

/-- RES 4,E (R374). -/
def execRes4E (s : State) : Result := resOpnd 4 (.reg .e) s

/-- RES 4,H (R374). -/
def execRes4H (s : State) : Result := resOpnd 4 (.reg .h) s

/-- RES 4,L (R374). -/
def execRes4L (s : State) : Result := resOpnd 4 (.reg .l) s

/-- RES 4,(HL) (R374). -/
def execRes4IndHl (s : State) : Result := resOpnd 4 .indHl s

/-- RES 4,A (R374). -/
def execRes4A (s : State) : Result := resOpnd 4 (.reg .a) s

/-- RES 5,B (R374). -/
def execRes5B (s : State) : Result := resOpnd 5 (.reg .b) s

/-- RES 5,C (R374). -/
def execRes5C (s : State) : Result := resOpnd 5 (.reg .c) s

/-- RES 5,D (R374). -/
def execRes5D (s : State) : Result := resOpnd 5 (.reg .d) s

/-- RES 5,E (R374). -/
def execRes5E (s : State) : Result := resOpnd 5 (.reg .e) s

/-- RES 5,H (R374). -/
def execRes5H (s : State) : Result := resOpnd 5 (.reg .h) s

/-- RES 5,L (R374). -/
def execRes5L (s : State) : Result := resOpnd 5 (.reg .l) s

/-- RES 5,(HL) (R374). -/
def execRes5IndHl (s : State) : Result := resOpnd 5 .indHl s

/-- RES 5,A (R374). -/
def execRes5A (s : State) : Result := resOpnd 5 (.reg .a) s

/-- RES 6,B (R374). -/
def execRes6B (s : State) : Result := resOpnd 6 (.reg .b) s

/-- RES 6,C (R374). -/
def execRes6C (s : State) : Result := resOpnd 6 (.reg .c) s

/-- RES 6,D (R374). -/
def execRes6D (s : State) : Result := resOpnd 6 (.reg .d) s

/-- RES 6,E (R374). -/
def execRes6E (s : State) : Result := resOpnd 6 (.reg .e) s

/-- RES 6,H (R374). -/
def execRes6H (s : State) : Result := resOpnd 6 (.reg .h) s

/-- RES 6,L (R374). -/
def execRes6L (s : State) : Result := resOpnd 6 (.reg .l) s

/-- RES 6,(HL) (R374). -/
def execRes6IndHl (s : State) : Result := resOpnd 6 .indHl s

/-- RES 6,A (R374). -/
def execRes6A (s : State) : Result := resOpnd 6 (.reg .a) s

/-- RES 7,B (R374). -/
def execRes7B (s : State) : Result := resOpnd 7 (.reg .b) s

/-- RES 7,C (R374). -/
def execRes7C (s : State) : Result := resOpnd 7 (.reg .c) s

/-- RES 7,D (R374). -/
def execRes7D (s : State) : Result := resOpnd 7 (.reg .d) s

/-- RES 7,E (R374). -/
def execRes7E (s : State) : Result := resOpnd 7 (.reg .e) s

/-- RES 7,H (R374). -/
def execRes7H (s : State) : Result := resOpnd 7 (.reg .h) s

/-- RES 7,L (R374). -/
def execRes7L (s : State) : Result := resOpnd 7 (.reg .l) s

/-- RES 7,(HL) (R374). -/
def execRes7IndHl (s : State) : Result := resOpnd 7 .indHl s

/-- RES 7,A (R374). -/
def execRes7A (s : State) : Result := resOpnd 7 (.reg .a) s

/-- SET 0,B (R375). -/
def execSet0B (s : State) : Result := setOpnd 0 (.reg .b) s

/-- SET 0,C (R375). -/
def execSet0C (s : State) : Result := setOpnd 0 (.reg .c) s

/-- SET 0,D (R375). -/
def execSet0D (s : State) : Result := setOpnd 0 (.reg .d) s

/-- SET 0,E (R375). -/
def execSet0E (s : State) : Result := setOpnd 0 (.reg .e) s

/-- SET 0,H (R375). -/
def execSet0H (s : State) : Result := setOpnd 0 (.reg .h) s

/-- SET 0,L (R375). -/
def execSet0L (s : State) : Result := setOpnd 0 (.reg .l) s

/-- SET 0,(HL) (R375). -/
def execSet0IndHl (s : State) : Result := setOpnd 0 .indHl s

/-- SET 0,A (R375). -/
def execSet0A (s : State) : Result := setOpnd 0 (.reg .a) s

/-- SET 1,B (R375). -/
def execSet1B (s : State) : Result := setOpnd 1 (.reg .b) s

/-- SET 1,C (R375). -/
def execSet1C (s : State) : Result := setOpnd 1 (.reg .c) s

/-- SET 1,D (R375). -/
def execSet1D (s : State) : Result := setOpnd 1 (.reg .d) s

/-- SET 1,E (R375). -/
def execSet1E (s : State) : Result := setOpnd 1 (.reg .e) s

/-- SET 1,H (R375). -/
def execSet1H (s : State) : Result := setOpnd 1 (.reg .h) s

/-- SET 1,L (R375). -/
def execSet1L (s : State) : Result := setOpnd 1 (.reg .l) s

/-- SET 1,(HL) (R375). -/
def execSet1IndHl (s : State) : Result := setOpnd 1 .indHl s

/-- SET 1,A (R375). -/
def execSet1A (s : State) : Result := setOpnd 1 (.reg .a) s

/-- SET 2,B (R375). -/
def execSet2B (s : State) : Result := setOpnd 2 (.reg .b) s

/-- SET 2,C (R375). -/
def execSet2C (s : State) : Result := setOpnd 2 (.reg .c) s

/-- SET 2,D (R375). -/
def execSet2D (s : State) : Result := setOpnd 2 (.reg .d) s

/-- SET 2,E (R375). -/
def execSet2E (s : State) : Result := setOpnd 2 (.reg .e) s

/-- SET 2,H (R375). -/
def execSet2H (s : State) : Result := setOpnd 2 (.reg .h) s

/-- SET 2,L (R375). -/
def execSet2L (s : State) : Result := setOpnd 2 (.reg .l) s

/-- SET 2,(HL) (R375). -/
def execSet2IndHl (s : State) : Result := setOpnd 2 .indHl s

/-- SET 2,A (R375). -/
def execSet2A (s : State) : Result := setOpnd 2 (.reg .a) s

/-- SET 3,B (R375). -/
def execSet3B (s : State) : Result := setOpnd 3 (.reg .b) s

/-- SET 3,C (R375). -/
def execSet3C (s : State) : Result := setOpnd 3 (.reg .c) s

/-- SET 3,D (R375). -/
def execSet3D (s : State) : Result := setOpnd 3 (.reg .d) s

/-- SET 3,E (R375). -/
def execSet3E (s : State) : Result := setOpnd 3 (.reg .e) s

/-- SET 3,H (R375). -/
def execSet3H (s : State) : Result := setOpnd 3 (.reg .h) s

/-- SET 3,L (R375). -/
def execSet3L (s : State) : Result := setOpnd 3 (.reg .l) s

/-- SET 3,(HL) (R375). -/
def execSet3IndHl (s : State) : Result := setOpnd 3 .indHl s

/-- SET 3,A (R375). -/
def execSet3A (s : State) : Result := setOpnd 3 (.reg .a) s

/-- SET 4,B (R375). -/
def execSet4B (s : State) : Result := setOpnd 4 (.reg .b) s

/-- SET 4,C (R375). -/
def execSet4C (s : State) : Result := setOpnd 4 (.reg .c) s

/-- SET 4,D (R375). -/
def execSet4D (s : State) : Result := setOpnd 4 (.reg .d) s

/-- SET 4,E (R375). -/
def execSet4E (s : State) : Result := setOpnd 4 (.reg .e) s

/-- SET 4,H (R375). -/
def execSet4H (s : State) : Result := setOpnd 4 (.reg .h) s

/-- SET 4,L (R375). -/
def execSet4L (s : State) : Result := setOpnd 4 (.reg .l) s

/-- SET 4,(HL) (R375). -/
def execSet4IndHl (s : State) : Result := setOpnd 4 .indHl s

/-- SET 4,A (R375). -/
def execSet4A (s : State) : Result := setOpnd 4 (.reg .a) s

/-- SET 5,B (R375). -/
def execSet5B (s : State) : Result := setOpnd 5 (.reg .b) s

/-- SET 5,C (R375). -/
def execSet5C (s : State) : Result := setOpnd 5 (.reg .c) s

/-- SET 5,D (R375). -/
def execSet5D (s : State) : Result := setOpnd 5 (.reg .d) s

/-- SET 5,E (R375). -/
def execSet5E (s : State) : Result := setOpnd 5 (.reg .e) s

/-- SET 5,H (R375). -/
def execSet5H (s : State) : Result := setOpnd 5 (.reg .h) s

/-- SET 5,L (R375). -/
def execSet5L (s : State) : Result := setOpnd 5 (.reg .l) s

/-- SET 5,(HL) (R375). -/
def execSet5IndHl (s : State) : Result := setOpnd 5 .indHl s

/-- SET 5,A (R375). -/
def execSet5A (s : State) : Result := setOpnd 5 (.reg .a) s

/-- SET 6,B (R375). -/
def execSet6B (s : State) : Result := setOpnd 6 (.reg .b) s

/-- SET 6,C (R375). -/
def execSet6C (s : State) : Result := setOpnd 6 (.reg .c) s

/-- SET 6,D (R375). -/
def execSet6D (s : State) : Result := setOpnd 6 (.reg .d) s

/-- SET 6,E (R375). -/
def execSet6E (s : State) : Result := setOpnd 6 (.reg .e) s

/-- SET 6,H (R375). -/
def execSet6H (s : State) : Result := setOpnd 6 (.reg .h) s

/-- SET 6,L (R375). -/
def execSet6L (s : State) : Result := setOpnd 6 (.reg .l) s

/-- SET 6,(HL) (R375). -/
def execSet6IndHl (s : State) : Result := setOpnd 6 .indHl s

/-- SET 6,A (R375). -/
def execSet6A (s : State) : Result := setOpnd 6 (.reg .a) s

/-- SET 7,B (R375). -/
def execSet7B (s : State) : Result := setOpnd 7 (.reg .b) s

/-- SET 7,C (R375). -/
def execSet7C (s : State) : Result := setOpnd 7 (.reg .c) s

/-- SET 7,D (R375). -/
def execSet7D (s : State) : Result := setOpnd 7 (.reg .d) s

/-- SET 7,E (R375). -/
def execSet7E (s : State) : Result := setOpnd 7 (.reg .e) s

/-- SET 7,H (R375). -/
def execSet7H (s : State) : Result := setOpnd 7 (.reg .h) s

/-- SET 7,L (R375). -/
def execSet7L (s : State) : Result := setOpnd 7 (.reg .l) s

/-- SET 7,(HL) (R375). -/
def execSet7IndHl (s : State) : Result := setOpnd 7 .indHl s

/-- SET 7,A (R375). -/
def execSet7A (s : State) : Result := setOpnd 7 (.reg .a) s

/-- PREFIX CB (R445). -/
def execPrefixCb (op2 : Byte) (s : State) : Result := prefixed op2 s

end Sys2Proof.Machine
end

