-- ==== Sys2Proof/Machine/Control.lean ====
section
/-! DEFINITION. Control transfer (44_control.md): the meaning of every instruction of the family, one definition each. -/

namespace Sys2Proof.Machine

/-- JP a16 (R401). -/
def execJpA16 (w : Word) (s : State) : Result := .next (s.jump w 16)

/-- JP NZ,a16 (R402). -/
def execJpNzA16 (w : Word) (s : State) : Result := whenCond .nz 3 12 (fun s => .next (s.jump w 16)) s

/-- JP Z,a16 (R402). -/
def execJpZA16 (w : Word) (s : State) : Result := whenCond .z 3 12 (fun s => .next (s.jump w 16)) s

/-- JP NC,a16 (R402). -/
def execJpNcA16 (w : Word) (s : State) : Result := whenCond .nc 3 12 (fun s => .next (s.jump w 16)) s

/-- JP C,a16 (R402). -/
def execJpCA16 (w : Word) (s : State) : Result := whenCond .c 3 12 (fun s => .next (s.jump w 16)) s

/-- JP HL (R403). -/
def execJpHl (s : State) : Result := .next (s.jump s.cpu.hl 4)

/-- JR e8 (R404). -/
def execJrE8 (e : Byte) (s : State) : Result := .next (s.jump (relTarget s.cpu.pc e) 12)

/-- JR NZ,e8 (R405). -/
def execJrNzE8 (e : Byte) (s : State) : Result := whenCond .nz 2 8 (fun s => .next (s.jump (relTarget s.cpu.pc e) 12)) s

/-- JR Z,e8 (R405). -/
def execJrZE8 (e : Byte) (s : State) : Result := whenCond .z 2 8 (fun s => .next (s.jump (relTarget s.cpu.pc e) 12)) s

/-- JR NC,e8 (R405). -/
def execJrNcE8 (e : Byte) (s : State) : Result := whenCond .nc 2 8 (fun s => .next (s.jump (relTarget s.cpu.pc e) 12)) s

/-- JR C,e8 (R405). -/
def execJrCE8 (e : Byte) (s : State) : Result := whenCond .c 2 8 (fun s => .next (s.jump (relTarget s.cpu.pc e) 12)) s

/-- CALL a16 (R406). -/
def execCallA16 (w : Word) (s : State) : Result := callTo w (s.cpu.pc + 3) 24 s

/-- CALL NZ,a16 (R407). -/
def execCallNzA16 (w : Word) (s : State) : Result := whenCond .nz 3 12 (fun s => callTo w (s.cpu.pc + 3) 24 s) s

/-- CALL Z,a16 (R407). -/
def execCallZA16 (w : Word) (s : State) : Result := whenCond .z 3 12 (fun s => callTo w (s.cpu.pc + 3) 24 s) s

/-- CALL NC,a16 (R407). -/
def execCallNcA16 (w : Word) (s : State) : Result := whenCond .nc 3 12 (fun s => callTo w (s.cpu.pc + 3) 24 s) s

/-- CALL C,a16 (R407). -/
def execCallCA16 (w : Word) (s : State) : Result := whenCond .c 3 12 (fun s => callTo w (s.cpu.pc + 3) 24 s) s

/-- RET (R408). -/
def execRet (s : State) : Result := returnTo 16 s

/-- RET NZ (R409). -/
def execRetNz (s : State) : Result := whenCond .nz 1 8 (returnTo 20) s

/-- RET Z (R409). -/
def execRetZ (s : State) : Result := whenCond .z 1 8 (returnTo 20) s

/-- RET NC (R409). -/
def execRetNc (s : State) : Result := whenCond .nc 1 8 (returnTo 20) s

/-- RET C (R409). -/
def execRetC (s : State) : Result := whenCond .c 1 8 (returnTo 20) s

/-- RST 0x00 (R410). -/
def execRst00 (s : State) : Result := callTo 0x0000 (s.cpu.pc + 1) 16 s

/-- RST 0x08 (R410). -/
def execRst08 (s : State) : Result := callTo 0x0008 (s.cpu.pc + 1) 16 s

/-- RST 0x10 (R410). -/
def execRst10 (s : State) : Result := callTo 0x0010 (s.cpu.pc + 1) 16 s

/-- RST 0x18 (R410). -/
def execRst18 (s : State) : Result := callTo 0x0018 (s.cpu.pc + 1) 16 s

/-- RST 0x20 (R410). -/
def execRst20 (s : State) : Result := callTo 0x0020 (s.cpu.pc + 1) 16 s

/-- RST 0x28 (R410). -/
def execRst28 (s : State) : Result := callTo 0x0028 (s.cpu.pc + 1) 16 s

/-- RST 0x30 (R410). -/
def execRst30 (s : State) : Result := callTo 0x0030 (s.cpu.pc + 1) 16 s

/-- RST 0x38 (R410). -/
def execRst38 (s : State) : Result := callTo 0x0038 (s.cpu.pc + 1) 16 s

/-- RETI (R412). -/
def execReti (s : State) : Result := returnEnable s

end Sys2Proof.Machine
end

