-- ==== Sys2Proof/Machine/Loads.lean ====
section
/-! DEFINITION. Loads, stores and stack transfers (40_loads.md): the meaning of every instruction of the family, one definition each. -/

namespace Sys2Proof.Machine

/-- LD B,B (R230). -/
def execLdBB (s : State) : Result := ldReg .b .b s

/-- LD B,C (R230). -/
def execLdBC (s : State) : Result := ldReg .b .c s

/-- LD B,D (R230). -/
def execLdBD (s : State) : Result := ldReg .b .d s

/-- LD B,E (R230). -/
def execLdBE (s : State) : Result := ldReg .b .e s

/-- LD B,H (R230). -/
def execLdBH (s : State) : Result := ldReg .b .h s

/-- LD B,L (R230). -/
def execLdBL (s : State) : Result := ldReg .b .l s

/-- LD B,A (R230). -/
def execLdBA (s : State) : Result := ldReg .b .a s

/-- LD C,B (R230). -/
def execLdCB (s : State) : Result := ldReg .c .b s

/-- LD C,C (R230). -/
def execLdCC (s : State) : Result := ldReg .c .c s

/-- LD C,D (R230). -/
def execLdCD (s : State) : Result := ldReg .c .d s

/-- LD C,E (R230). -/
def execLdCE (s : State) : Result := ldReg .c .e s

/-- LD C,H (R230). -/
def execLdCH (s : State) : Result := ldReg .c .h s

/-- LD C,L (R230). -/
def execLdCL (s : State) : Result := ldReg .c .l s

/-- LD C,A (R230). -/
def execLdCA (s : State) : Result := ldReg .c .a s

/-- LD D,B (R230). -/
def execLdDB (s : State) : Result := ldReg .d .b s

/-- LD D,C (R230). -/
def execLdDC (s : State) : Result := ldReg .d .c s

/-- LD D,D (R230). -/
def execLdDD (s : State) : Result := ldReg .d .d s

/-- LD D,E (R230). -/
def execLdDE (s : State) : Result := ldReg .d .e s

/-- LD D,H (R230). -/
def execLdDH (s : State) : Result := ldReg .d .h s

/-- LD D,L (R230). -/
def execLdDL (s : State) : Result := ldReg .d .l s

/-- LD D,A (R230). -/
def execLdDA (s : State) : Result := ldReg .d .a s

/-- LD E,B (R230). -/
def execLdEB (s : State) : Result := ldReg .e .b s

/-- LD E,C (R230). -/
def execLdEC (s : State) : Result := ldReg .e .c s

/-- LD E,D (R230). -/
def execLdED (s : State) : Result := ldReg .e .d s

/-- LD E,E (R230). -/
def execLdEE (s : State) : Result := ldReg .e .e s

/-- LD E,H (R230). -/
def execLdEH (s : State) : Result := ldReg .e .h s

/-- LD E,L (R230). -/
def execLdEL (s : State) : Result := ldReg .e .l s

/-- LD E,A (R230). -/
def execLdEA (s : State) : Result := ldReg .e .a s

/-- LD H,B (R230). -/
def execLdHB (s : State) : Result := ldReg .h .b s

/-- LD H,C (R230). -/
def execLdHC (s : State) : Result := ldReg .h .c s

/-- LD H,D (R230). -/
def execLdHD (s : State) : Result := ldReg .h .d s

/-- LD H,E (R230). -/
def execLdHE (s : State) : Result := ldReg .h .e s

/-- LD H,H (R230). -/
def execLdHH (s : State) : Result := ldReg .h .h s

/-- LD H,L (R230). -/
def execLdHL (s : State) : Result := ldReg .h .l s

/-- LD H,A (R230). -/
def execLdHA (s : State) : Result := ldReg .h .a s

/-- LD L,B (R230). -/
def execLdLB (s : State) : Result := ldReg .l .b s

/-- LD L,C (R230). -/
def execLdLC (s : State) : Result := ldReg .l .c s

/-- LD L,D (R230). -/
def execLdLD (s : State) : Result := ldReg .l .d s

/-- LD L,E (R230). -/
def execLdLE (s : State) : Result := ldReg .l .e s

/-- LD L,H (R230). -/
def execLdLH (s : State) : Result := ldReg .l .h s

/-- LD L,L (R230). -/
def execLdLL (s : State) : Result := ldReg .l .l s

/-- LD L,A (R230). -/
def execLdLA (s : State) : Result := ldReg .l .a s

/-- LD A,B (R230). -/
def execLdAB (s : State) : Result := ldReg .a .b s

/-- LD A,C (R230). -/
def execLdAC (s : State) : Result := ldReg .a .c s

/-- LD A,D (R230). -/
def execLdAD (s : State) : Result := ldReg .a .d s

/-- LD A,E (R230). -/
def execLdAE (s : State) : Result := ldReg .a .e s

/-- LD A,H (R230). -/
def execLdAH (s : State) : Result := ldReg .a .h s

/-- LD A,L (R230). -/
def execLdAL (s : State) : Result := ldReg .a .l s

/-- LD A,A (R230). -/
def execLdAA (s : State) : Result := ldReg .a .a s

/-- LD B,(HL) (R231). -/
def execLdBIndHl (s : State) : Result := ldFromHl .b s

/-- LD C,(HL) (R231). -/
def execLdCIndHl (s : State) : Result := ldFromHl .c s

/-- LD D,(HL) (R231). -/
def execLdDIndHl (s : State) : Result := ldFromHl .d s

/-- LD E,(HL) (R231). -/
def execLdEIndHl (s : State) : Result := ldFromHl .e s

/-- LD H,(HL) (R231). -/
def execLdHIndHl (s : State) : Result := ldFromHl .h s

/-- LD L,(HL) (R231). -/
def execLdLIndHl (s : State) : Result := ldFromHl .l s

/-- LD A,(HL) (R231). -/
def execLdAIndHl (s : State) : Result := ldFromHl .a s

/-- LD (HL),B (R232). -/
def execLdIndHlB (s : State) : Result := ldToHl .b s

/-- LD (HL),C (R232). -/
def execLdIndHlC (s : State) : Result := ldToHl .c s

/-- LD (HL),D (R232). -/
def execLdIndHlD (s : State) : Result := ldToHl .d s

/-- LD (HL),E (R232). -/
def execLdIndHlE (s : State) : Result := ldToHl .e s

/-- LD (HL),H (R232). -/
def execLdIndHlH (s : State) : Result := ldToHl .h s

/-- LD (HL),L (R232). -/
def execLdIndHlL (s : State) : Result := ldToHl .l s

/-- LD (HL),A (R232). -/
def execLdIndHlA (s : State) : Result := ldToHl .a s

/-- LD B,d8 (R233). -/
def execLdBD8 (n : Byte) (s : State) : Result := ldImm .b n s

/-- LD C,d8 (R233). -/
def execLdCD8 (n : Byte) (s : State) : Result := ldImm .c n s

/-- LD D,d8 (R233). -/
def execLdDD8 (n : Byte) (s : State) : Result := ldImm .d n s

/-- LD E,d8 (R233). -/
def execLdED8 (n : Byte) (s : State) : Result := ldImm .e n s

/-- LD H,d8 (R233). -/
def execLdHD8 (n : Byte) (s : State) : Result := ldImm .h n s

/-- LD L,d8 (R233). -/
def execLdLD8 (n : Byte) (s : State) : Result := ldImm .l n s

/-- LD A,d8 (R233). -/
def execLdAD8 (n : Byte) (s : State) : Result := ldImm .a n s

/-- LD (HL),d8 (R234). -/
def execLdIndHlD8 (n : Byte) (s : State) : Result := ldHlImm n s

/-- LD A,(BC) (R235). -/
def execLdAIndBc (s : State) : Result := ldAFrom .bc s

/-- LD A,(DE) (R235). -/
def execLdAIndDe (s : State) : Result := ldAFrom .de s

/-- LD (BC),A (R236). -/
def execLdIndBcA (s : State) : Result := ldATo .bc s

/-- LD (DE),A (R236). -/
def execLdIndDeA (s : State) : Result := ldATo .de s

/-- LD A,(HL+) (R237). -/
def execLdAIndHlInc (s : State) : Result := ldAFrom .hlInc s

/-- LD A,(HL-) (R238). -/
def execLdAIndHlDec (s : State) : Result := ldAFrom .hlDec s

/-- LD (HL+),A (R239). -/
def execLdIndHlIncA (s : State) : Result := ldATo .hlInc s

/-- LD (HL-),A (R240). -/
def execLdIndHlDecA (s : State) : Result := ldATo .hlDec s

/-- LD A,(a16) (R241). -/
def execLdAIndA16 (w : Word) (s : State) : Result := ldAAddr w 3 16 s

/-- LD (a16),A (R242). -/
def execLdIndA16A (w : Word) (s : State) : Result := stAAddr w 3 16 s

/-- LD BC,d16 (R243). -/
def execLdBcD16 (w : Word) (s : State) : Result := ldPairImm .bc w s

/-- LD DE,d16 (R243). -/
def execLdDeD16 (w : Word) (s : State) : Result := ldPairImm .de w s

/-- LD HL,d16 (R243). -/
def execLdHlD16 (w : Word) (s : State) : Result := ldPairImm .hl w s

/-- LD SP,d16 (R243). -/
def execLdSpD16 (w : Word) (s : State) : Result := ldPairImm .sp w s

/-- LD (a16),SP (R244). -/
def execLdIndA16Sp (w : Word) (s : State) : Result := stSp w s

/-- LD SP,HL (R245). -/
def execLdSpHl (s : State) : Result := ldSp s

/-- LDH A,(a8) (R246). -/
def execLdhAIndA8 (n : Byte) (s : State) : Result := ldAAddr (highPage n) 2 12 s

/-- LDH (a8),A (R247). -/
def execLdhIndA8A (n : Byte) (s : State) : Result := stAAddr (highPage n) 2 12 s

/-- LD A,(C) (R248). -/
def execLdAIndC (s : State) : Result := ldAAddr (highPage s.cpu.c) 1 8 s

/-- LD (C),A (R249). -/
def execLdIndCA (s : State) : Result := stAAddr (highPage s.cpu.c) 1 8 s

/-- PUSH BC (R250). -/
def execPushBc (s : State) : Result := push .bc s

/-- PUSH DE (R250). -/
def execPushDe (s : State) : Result := push .de s

/-- PUSH HL (R250). -/
def execPushHl (s : State) : Result := push .hl s

/-- PUSH AF (R250). -/
def execPushAf (s : State) : Result := push .af s

/-- POP BC (R251). -/
def execPopBc (s : State) : Result := pop .bc s

/-- POP DE (R251). -/
def execPopDe (s : State) : Result := pop .de s

/-- POP HL (R251). -/
def execPopHl (s : State) : Result := pop .hl s

/-- POP AF (R254). -/
def execPopAf (s : State) : Result := pop .af s

end Sys2Proof.Machine
end

