-- ==== Sys2Proof/Machine/System.lean ====
section
/-! DEFINITION. System and control instructions (45_system.md): the meaning of every instruction of the family, one definition each. -/

namespace Sys2Proof.Machine

/-- NOP (R440). -/
def execNop (s : State) : Result := .next (s.retire 1 4)

/-- HALT (R441). -/
def execHalt (s : State) : Result := .next (({ s with cpu := { s.cpu with halted := true } } : State).retire 1 4)

/-- STOP (R442). -/
def execStop (_ignored : Byte) (s : State) : Result := .fault (.unmodelledStop s.cpu.pc)

/-- DI (R443). -/
def execDi (s : State) : Result := .next (({ s with cpu := { s.cpu with ime := .disabled } } : State).retire 1 4)

/-- EI (R444). -/
def execEi (s : State) : Result := .next (({ s with cpu := { s.cpu with ime := if s.cpu.ime = .disabled then .pending else s.cpu.ime } } : State).retire 1 4)

/-- Opcode 0xD3 (R446). -/
def execIllegalD3 (s : State) : Result := .fault (.illegalOpcode 0xD3 s.cpu.pc)

/-- Opcode 0xDB (R446). -/
def execIllegalDB (s : State) : Result := .fault (.illegalOpcode 0xDB s.cpu.pc)

/-- Opcode 0xDD (R446). -/
def execIllegalDD (s : State) : Result := .fault (.illegalOpcode 0xDD s.cpu.pc)

/-- Opcode 0xE3 (R446). -/
def execIllegalE3 (s : State) : Result := .fault (.illegalOpcode 0xE3 s.cpu.pc)

/-- Opcode 0xE4 (R446). -/
def execIllegalE4 (s : State) : Result := .fault (.illegalOpcode 0xE4 s.cpu.pc)

/-- Opcode 0xEB (R446). -/
def execIllegalEB (s : State) : Result := .fault (.illegalOpcode 0xEB s.cpu.pc)

/-- Opcode 0xEC (R446). -/
def execIllegalEC (s : State) : Result := .fault (.illegalOpcode 0xEC s.cpu.pc)

/-- Opcode 0xED (R446). -/
def execIllegalED (s : State) : Result := .fault (.illegalOpcode 0xED s.cpu.pc)

/-- Opcode 0xF4 (R446). -/
def execIllegalF4 (s : State) : Result := .fault (.illegalOpcode 0xF4 s.cpu.pc)

/-- Opcode 0xFC (R446). -/
def execIllegalFC (s : State) : Result := .fault (.illegalOpcode 0xFC s.cpu.pc)

/-- Opcode 0xFD (R446). -/
def execIllegalFD (s : State) : Result := .fault (.illegalOpcode 0xFD s.cpu.pc)

end Sys2Proof.Machine
end

