-- ==== Sys2Proof/Machine/Ppu.lean ====
section
/-! DEFINITION. OAM DMA (20_memory.md R121) and the video controller (61_ppu.md). -/

namespace Sys2Proof.Machine

/-! ## OAM DMA -/

/-- `DmaTick()`, the engine's part of one dot (R121): every fourth dot copies one byte. -/
def dmaTick (s : State) : State :=
  if s.dma.active then
    if s.dma.phase + 1 = 4 then
      { s with
        oam := s.oam.write s.dma.index (busReadDma s (s.dma.src + BitVec.ofNat 16 s.dma.index))
        dma := { s.dma with
          phase := 0, index := s.dma.index + 1, active := decide (s.dma.index + 1 ≠ 160) } }
    else { s with dma := { s.dma with phase := s.dma.phase + 1 } }
  else s

/-! ## OAM scan and snapshot -/

/-- Object height: 16 when LCDC[2] is set, else 8 (R50, R603). -/
def objHeight (lcdc : Byte) : Nat := if bit lcdc 2 then 16 else 8

/-- Entry i of OAM (R634). -/
def oamEntry (oam : Memory) (i : Nat) : ObjEntry :=
  { index := i, y := oam.read (4 * i), x := oam.read (4 * i + 1), tile := oam.read (4 * i + 2), attr := oam.read (4 * i + 3) }

/-- Whether entry i is on line ly: `Y_i <= ly + 16 < Y_i + h` (R603). -/
def onLine (lcdc : Byte) (oam : Memory) (ly i : Nat) : Bool :=
  decide ((oam.read (4 * i)).toNat ≤ ly + 16 ∧ ly + 16 < (oam.read (4 * i)).toNat + objHeight lcdc)

/-- `OamScan(ly)`: the first ten entries on the line, in index order (R603). -/
def oamScan (lcdc : Byte) (oam : Memory) (ly : Nat) : List Nat :=
  ((List.range 40).filter (onLine lcdc oam ly)).take 10

/-- `Snapshot()` (R638), for the candidates `cand`. -/
def snapshot (p : Ppu) (vram oam : Memory) (cand : List Nat) : Snapshot :=
  { lcdc := p.lcdc, scx := p.scx, scy := p.scy, wx := p.wx, bgp := p.bgp, obp0 := p.obp0, obp1 := p.obp1, vram := vram,
    objs := cand.map (oamEntry oam) }

/-! ## Tiles, background and window -/

/-- Column c of row r of the tile whose bytes start at VRAM offset t: `(hi[7-c] << 1) | lo[7-c]` (R630). -/
def tilePixel (vram : Memory) (t r c : Nat) : BitVec 2 :=
  BitVec.ofNat 2
    (2 * ((vram.read (t + 2 * r + 1)).getLsbD (7 - c)).toNat + ((vram.read (t + 2 * r)).getLsbD (7 - c)).toNat)

/-- VRAM offset of a background or window tile: from 0x8000 unsigned when LCDC[4] is set, else from 0x9000 signed (R630). -/
def bgTile (lcdc idx : Byte) : Nat :=
  if bit lcdc 4 then 16 * idx.toNat
  else if idx.toNat < 128 then 0x1000 + 16 * idx.toNat
  else 0x1000 + 16 * idx.toNat - 16 * 256

/-- VRAM offset of a tile map: 0x9C00 when selected, else 0x9800 (R630). -/
def tileMap (sel : Bool) : Nat := if sel then 0x1C00 else 0x1800

/-- A pixel of a tile map, at map pixel (px, py) (R631, R632). -/
def mapPixel (s : Snapshot) (sel : Bool) (px py : Nat) : BitVec 2 :=
  let idx := s.vram.read (tileMap sel + 32 * (py / 8) + px / 8)
  tilePixel s.vram (bgTile s.lcdc idx) (py % 8) (px % 8)

/-- The window covers column x (R632). -/
def windowCovers (s : Snapshot) (wyLatch : Bool) (x : Nat) : Bool :=
  bit s.lcdc 0 && bit s.lcdc 5 && wyLatch && decide (s.wx.toNat ≤ 166) && decide (s.wx.toNat ≤ x + 7)

/-- `bg_idx(x)`: the background or window colour index of column x of line ly (R631, R632). -/
def bgIndex (s : Snapshot) (wyLatch : Bool) (winLine ly x : Nat) : BitVec 2 :=
  if bit s.lcdc 0 then
    if windowCovers s wyLatch x then mapPixel s (bit s.lcdc 6) (x + 7 - s.wx.toNat) winLine
    else mapPixel s (bit s.lcdc 3) ((x + s.scx.toNat) % 256) ((ly + s.scy.toNat) % 256)
  else 0

/-- `win_drawn`: some column of the line is covered (R632). -/
def windowDrawn (s : Snapshot) (wyLatch : Bool) : Bool := (List.range 160).any (windowCovers s wyLatch)

/-! ## Objects -/

/-- An object put in before the first with a larger X: the priority order of R633, ties by OAM index. -/
def insertByX (o : ObjEntry) : List ObjEntry → List ObjEntry
  | [] => [o]
  | p :: ps => if o.x.toNat < p.x.toNat then o :: p :: ps else p :: insertByX o ps

/-- The candidates in priority order (R633). -/
def byPriority (objs : List ObjEntry) : List ObjEntry := objs.foldl (fun l o => insertByX o l) []

/-- The object covers column x: `X - 8 <= x < X` (R633). -/
def objCovers (o : ObjEntry) (x : Nat) : Bool := decide (o.x.toNat ≤ x + 8 ∧ x < o.x.toNat)

/-- The colour index of an object at column x of line ly (R633). -/
def objIndex (s : Snapshot) (ly x : Nat) (o : ObjEntry) : BitVec 2 :=
  let h := objHeight s.lcdc
  let row0 := ly + 16 - o.y.toNat
  let col0 := x + 8 - o.x.toNat
  let row := if bit o.attr 6 then h - 1 - row0 else row0
  let col := if bit o.attr 5 then 7 - col0 else col0
  if h = 16 then
    let tile := (o.tile &&& 0xFE).toNat
    if row < 8 then tilePixel s.vram (16 * tile) row col else tilePixel s.vram (16 * (tile + 1)) (row - 8) col
  else tilePixel s.vram (16 * o.tile.toNat) row col

/-- The object pixel of column x: the first covering object in priority order with a nonzero colour index (R633). -/
def objPixel (s : Snapshot) (prio : List ObjEntry) (ly x : Nat) : Option (BitVec 2 × ObjEntry) :=
  if bit s.lcdc 1 then
    ((prio.filter (objCovers · x)).map (fun o => (objIndex s ly x o, o))).find? (fun p => p.1 ≠ 0)
  else none

/-! ## Mixing, palettes and the line -/

/-- `shade = (P >> (2 × idx)) & 3` (R637). -/
def shade (palette : Byte) (idx : BitVec 2) : BitVec 2 := BitVec.ofNat 2 (palette.toNat / 2 ^ (2 * idx.toNat))

/-- The background pixel (R635, R637). -/
def bgPixel (s : Snapshot) (bg : BitVec 2) : Pixel := { idx := bg, sel := none, shade := shade s.bgp bg }

/-- The pixel of an object (R633, R637): palette 1 when attribute bit 4 is set. -/
def spritePixel (s : Snapshot) (idx : BitVec 2) (o : ObjEntry) : Pixel :=
  if bit o.attr 4 then { idx := idx, sel := some .obp1, shade := shade s.obp1 idx }
  else { idx := idx, sel := some .obp0, shade := shade s.obp0 idx }

/-- The mix of one column (R635). -/
def mixPixel (s : Snapshot) (bg : BitVec 2) (obj : Option (BitVec 2 × ObjEntry)) : Pixel :=
  match obj with
  | some (idx, o) => if bit o.attr 7 && decide (bg ≠ 0) then bgPixel s bg else spritePixel s idx o
  | none => bgPixel s bg

/-- `RenderLine(ly)`: the 160 pixels of a line from the snapshot (R631 to R638). -/
def renderLine (s : Snapshot) (wyLatch : Bool) (winLine ly : Nat) : List Pixel :=
  let prio := byPriority s.objs
  (List.range 160).map (fun x => mixPixel s (bgIndex s wyLatch winLine ly x) (objPixel s prio ly x))

/-- The candidates that cost a fetch: `1 <= X <= 167` with objects enabled (R622). -/
def fetchedObjs (s : Snapshot) : Nat :=
  if bit s.lcdc 1 then (s.objs.filter (fun o => decide (1 ≤ o.x.toNat ∧ o.x.toNat ≤ 167))).length else 0

/-- `MODE3_LEN` (R620): the reference of R622, or a free value in [172, 289] when left OPEN. -/
def mode3Len (p : OpenParam) (k : Nat) (s : Snapshot) (wyLatch : Bool) : Nat :=
  match p with
  | .reference => min 289 (172 + s.scx.toNat % 8 + (if windowDrawn s wyLatch then 6 else 0) + 6 * fetchedObjs s)
  | .leftOpen => 172 + Config.openMode3Len k % 118

/-! ## The dot state machine -/

/-- Dot 0 of a visible line: mode 2, and the window-Y latch (R600, R604). -/
def lineStart (p : Ppu) : Ppu :=
  if p.ly < 144 ∧ p.dot = 0 then
    { p with mode := .oamScan, wyLatch := p.wyLatch || decide (p.ly = p.wy.toNat) }
  else p

/-- Dot 0 of line 144: mode 1, the V-blank request, publication (R600, R609, R636). -/
def vblankStart (s : State) : State :=
  if s.ppu.ly = 144 ∧ s.ppu.dot = 0 then
    { s with ppu := { s.ppu with mode := .vblank, fbPub := some s.ppu.fbWork }, ifReg := s.ifReg ||| 0x01 }
  else s

/-- Dot 80 of a visible line: scan, snapshot, length, the whole line drawn, mode 3 (R600). -/
def transferStart (s : State) : State :=
  let p := s.ppu
  if p.ly < 144 ∧ p.dot = 80 then
    let cand := oamScan p.lcdc s.oam p.ly
    let snap := snapshot p s.vram s.oam cand
    { s with ppu := { p with
        cand := cand
        snap := snap
        mode3Len := mode3Len s.params.mode3Len p.free snap p.wyLatch
        fbWork := p.fbWork.set p.ly (renderLine snap p.wyLatch p.winLine p.ly)
        winDrawn := windowDrawn snap p.wyLatch
        mode := .transfer
        free := p.free + 1 } }
  else s

/-- The end of mode 3: mode 0, and the window line counter (R600, R605). -/
def hblankStart (p : Ppu) : Ppu :=
  if p.ly < 144 ∧ p.dot = 80 + p.mode3Len then
    { p with mode := .hblank, winLine := if p.winDrawn then p.winLine + 1 else p.winLine }
  else p

/-- `StatLine()` (R607), with the coincidence bit just computed. -/
def statLineOf (p : Ppu) : Bool :=
  (bit p.stat 6 && p.coincidence) || (bit p.stat 5 && decide (p.mode = .oamScan))
    || (bit p.stat 4 && decide (p.mode = .vblank)) || (bit p.stat 3 && decide (p.mode = .hblank))

/-- Coincidence and the LCD-STAT request on a rising edge of the STAT line (R600, R606, R610). -/
def statUpdate (s : State) : State :=
  let p := { s.ppu with coincidence := decide (s.ppu.ly = s.ppu.lyc.toNat) }
  { s with
    ppu := { p with statLine := statLineOf p }
    ifReg := if statLineOf p && !p.statLine then s.ifReg ||| 0x02 else s.ifReg }

/-- The dot and line counters (R600): 456 dots a line, 154 lines a frame, the window state cleared at the wrap. -/
def dotAdvance (p : Ppu) : Ppu :=
  if p.dot + 1 = 456 then
    if p.ly + 1 = 154 then { p with dot := 0, ly := 0, wyLatch := false, winLine := 0 }
    else { p with dot := 0, ly := p.ly + 1 }
  else { p with dot := p.dot + 1 }

/-- What a dot does with the LCD on (R600). -/
def lcdDot (s : State) : State :=
  let s := { s with ppu := lineStart s.ppu }
  let s := vblankStart s
  let s := transferStart s
  let s := { s with ppu := hblankStart s.ppu }
  let s := statUpdate s
  { s with ppu := dotAdvance s.ppu }

/-- `ppu_dot()` (R600): the DMA tick, then the PPU when the LCD is on (R640). -/
def ppuDot (s : State) : State :=
  let s := dmaTick s
  if s.ppu.lcdOn then lcdDot s else s

end Sys2Proof.Machine
end

