-- ==== Sys2Proof/Machine/Cycle.lean ====
section
/-! DEFINITION. The step of the whole machine: fetch (30_encoding.md R190), the CPU's part of an M-cycle (60_exceptions.md R520,
R505, R506), the devices' part (20_memory.md R130), the fault mark (60_exceptions.md R540), and how a word is placed where the next
fetch reads. -/

namespace Sys2Proof.Machine

/-! ## Fetch and execution -/

/-- Fetch and decode at the pc, through the bus (R190): the only fault is a 16-bit immediate that starts at 0xFFFF (R106). -/
def fetch (s : State) : Except Fault Instr :=
  match decodeOpcode (busRead s s.cpu.pc) with
  | .done i => .ok i
  | .byte k => .ok (k (busRead s (s.cpu.pc + 1)))
  | .word k =>
    match memRead16 s (s.cpu.pc + 1) with
    | .error f => .error f
    | .ok w => .ok (k w)
  | .prefixed => .ok (decodePrefixed (busRead s (s.cpu.pc + 1)))

/-- `execute_instruction()` (R520, R521): fetch, decode, execute one instruction. -/
def executeInstruction (s : State) : Result :=
  match fetch s with
  | .error f => .fault f
  | .ok i => exec i s

/-- The IME transition function (R506): an IME that was Pending when the instruction started and still is becomes Enabled. -/
def promoteIme (ime0 : Ime) (s : State) : State :=
  if ime0 = .pending ∧ s.cpu.ime = .pending then { s with cpu := { s.cpu with ime := .enabled } } else s

/-- An instruction with the IME transition after it (R520). -/
def runInstruction (s : State) : Result :=
  match executeInstruction s with
  | .next t => .next (promoteIme s.cpu.ime t)
  | .fault f => .fault f
  | .refused r => .refused r

/-- `wake(IF, IE)` (R505): any flag, or under HALT_WAKE_NEEDS_IE an enabled one. -/
def wakes (s : State) : Bool :=
  if s.params.haltWakeNeedsIe then decide (s.serviceable ≠ 0) else decide (s.ifReg &&& 0x1F ≠ 0)

/-- A CPU step at an instruction boundary: dispatch first, else one instruction (R504, R520). -/
def cpuStep (s : State) : Result :=
  match handleInterrupt s with
  | some r => r
  | none => runInstruction s

/-- `cpu_mcycle()` (R520). -/
def cpuMcycle (s : State) : Result :=
  if 0 < s.cpu.busy then .next { s with cpu := { s.cpu with busy := s.cpu.busy - 1 } }
  else if s.cpu.halted ∧ wakes s = false then .next s
  else cpuStep { s with cpu := { s.cpu with halted := false } }

/-! ## The machine step -/

/-- What follows the CPU in an M-cycle (R130): four dots, then audio, timer, serial and joypad. -/
def devices (s : State) : State :=
  joypadMcycle (serialMcycle (timerMcycle (apuMcycle (ppuDot (ppuDot (ppuDot (ppuDot s)))))))

/-- `MachineStep` (R130): one M-cycle. A fault ends the step without effect (R540); a faulted machine takes no further step. -/
def machineStep (s : State) : Result :=
  match s.fault with
  | some f => .fault f
  | none =>
    match cpuMcycle s with
    | .next t => .next (devices t)
    | .fault f => .fault f
    | .refused r => .refused r

/-- The fault mark (R540): the state as it was before the step, marked. -/
def markFault (f : Fault) (s : State) : State := { s with fault := some f }

/-! ## Placing an instruction where the next fetch reads -/

/-- One byte put into the storage that a fetch at `a` reads; no effect where no storage answers. -/
def poke (s : State) (a : Word) (v : Byte) : State :=
  let n := a.toNat
  match regionOf a with
  | .rom0 => { s with cart := { s.cart with rom := s.cart.rom.write (romOffset s.cart s.mapper n) v } }
  | .romX => { s with cart := { s.cart with rom := s.cart.rom.write (romOffset s.cart s.mapper n) v } }
  | .vram => { s with vram := s.vram.write (n - 0x8000) v }
  | .cartRam =>
    if ramPresent s.cart s.mapper then
      { s with mapper := { s.mapper with ram := s.mapper.ram.write (ramOffset s.cart s.mapper n) v } }
    else s
  | .wram0 => { s with wram := s.wram.write (n - 0xC000) v }
  | .wram1 => { s with wram := s.wram.write (n - 0xC000) v }
  | .echo => { s with wram := s.wram.write (n - 0x2000 - 0xC000) v }
  | .oam => { s with oam := s.oam.write (n - 0xFE00) v }
  | .prohibited => s
  | .io => s
  | .hram => { s with hram := s.hram.write (n - 0xFF80) v }
  | .ie => { s with ie := v }

/-- Bytes put at rising addresses from `a`. -/
def pokeAll (s : State) (a : Word) : List Byte → State
  | [] => s
  | v :: vs => pokeAll (poke s a v) (a + 1) vs

/-- The bytes a fetch would read from `a` on. -/
def bytesAt (s : State) (a : Word) (n : Nat) : List Byte := (List.range n).map (fun i => busRead s (a + BitVec.ofNat 16 i))

/-- The machine at an instruction boundary, not halted, not faulted. -/
def atBoundary (s : State) : State := { s with fault := none, cpu := { s.cpu with halted := false, busy := 0 } }

/-- IME off when an interrupt would be dispatched before the instruction. -/
def undisturbed (s : State) : State :=
  if s.cpu.ime = .enabled ∧ s.serviceable ≠ 0 then { s with cpu := { s.cpu with ime := .disabled } } else s

/-- Three bytes placed at the pc, or, where the pc's addresses have no storage or would wrap, at 0xC000 with the pc there. -/
def placeBytes (s : State) (bs : List Byte) : State :=
  let s := atBoundary s
  let t := pokeAll s s.cpu.pc bs
  if s.cpu.pc ≠ 0xFFFE ∧ bytesAt t s.cpu.pc bs.length = bs then undisturbed t
  else undisturbed (pokeAll { s with cpu := { s.cpu with pc := 0xC000 } } 0xC000 bs)

/-- The word of an opcode-table row placed where the next step fetches (log entry 3). -/
def placeWord (s : State) (nbits w : Nat) : State := placeBytes s (tableBytes nbits w)

end Sys2Proof.Machine
end

