-- ==== Sys2Proof/Machine/Step.lean ====
section
/-! DEFINITION. One step of the machine, and the state with an instruction placed where the step fetches. -/

namespace Sys2Proof.Machine

/-- One M-cycle (20_memory.md R130). -/
def step (s : State) : Host.Outcome State Fault Refusal := machineStep s

/-- The state with the table word `w` of `nbits` bits where the next step fetches its instruction (log entry 3). -/
def State.withFetchWord (s : State) (nbits w : Nat) : State := placeWord s nbits w

end Sys2Proof.Machine
end

