-- ==== Sys2Proof/Machine/Load.lean ====
section
/-! DEFINITION. Cartridge load and launch: the header (20_memory.md R158), the load (R150, R159 to R162), and the reset of a loaded
machine (70_reset_and_hazards.md R800). A launch is no step of the machine (R163). -/

namespace Sys2Proof.Machine

/-- A file: its size in bytes and its bytes by offset. -/
structure Image where
  size : Nat
  bytes : Memory
  deriving DecidableEq, Repr

/-! ## The header -/

/-- The header's fields (R158). Only type, sizes and header checksum change what the core does. -/
structure Header where
  title : List Byte
  manufacturer : List Byte
  colorFlag : Byte
  newLicensee : List Byte
  sgbFlag : Byte
  cartType : Byte
  romSize : Byte
  ramSize : Byte
  region : Byte
  oldLicensee : Byte
  version : Byte
  headerChecksum : Byte
  globalChecksum : List Byte
  deriving DecidableEq, Repr

/-- `n` bytes from an offset. -/
def bytesFrom (m : Memory) (a n : Nat) : List Byte := (List.range n).map (fun i => m.read (a + i))

/-- An ASCII letter in upper case (R158: the title is uppercased). -/
def upper (v : Byte) : Byte := if 0x61 ≤ v.toNat ∧ v.toNat ≤ 0x7A then v - 0x20 else v

/-- The header of an image (R158). -/
def headerOf (m : Memory) : Header :=
  { title := (bytesFrom m 0x0134 16).map upper
    manufacturer := bytesFrom m 0x013F 4
    colorFlag := m.read 0x0143
    newLicensee := bytesFrom m 0x0144 2
    sgbFlag := m.read 0x0146
    cartType := m.read 0x0147
    romSize := m.read 0x0148
    ramSize := m.read 0x0149
    region := m.read 0x014A
    oldLicensee := m.read 0x014B
    version := m.read 0x014C
    headerChecksum := m.read 0x014D
    globalChecksum := bytesFrom m 0x014E 2 }

/-- The licensee code: the new one when the old one is 0x33 (R158). -/
def Header.licensee (h : Header) : List Byte := if h.oldLicensee = 0x33 then h.newLicensee else [h.oldLicensee]

/-! ## The load -/

/-- The mapper and battery of a cartridge-type byte (R150). -/
def mapperOf (code : Byte) : Except LoadReason (MapperKind × Bool) :=
  match code.toNat with
  | 0 => .ok (.noMapper, false)
  | 1 => .ok (.bank, false)
  | 2 => .ok (.bank, false)
  | 3 => .ok (.bank, true)
  | _ => .error (.cartType code)

/-- ROM_BANKS of a ROM-size byte (R159). -/
def romBanksOf (code : Byte) : Except LoadReason Nat :=
  if code.toNat ≤ 8 then .ok (2 * 2 ^ code.toNat) else .error (.romSize code)

/-- RAM_BANKS of a RAM-size byte (R160). -/
def ramBanksOf (code : Byte) : Except LoadReason Nat :=
  match code.toNat with
  | 0 => .ok 0
  | 2 => .ok 1
  | 3 => .ok 4
  | 4 => .ok 16
  | 5 => .ok 8
  | _ => .error (.ramSize code)

/-- The cartridge an image makes, cut to its declared size, or why the load fails (R150, R159, R160, R162). -/
def cartridgeOf (img : Image) : Except LoadReason Cartridge :=
  let h := headerOf img.bytes
  match mapperOf h.cartType with
  | .error e => .error e
  | .ok (kind, battery) =>
    match romBanksOf h.romSize with
    | .error e => .error e
    | .ok romBanks =>
      match ramBanksOf h.ramSize with
      | .error e => .error e
      | .ok ramBanks =>
        if img.size < romBanks * 0x4000 then .error (.shortImage img.size (romBanks * 0x4000))
        else
          .ok { kind := kind, battery := battery, romBanks := romBanks, ramBanks := ramBanks,
                rom := img.bytes.below (romBanks * 0x4000) }

/-- Cartridge RAM at load: the save file's bytes below both lengths when there is a battery, else zeros (R161). -/
def loadedRam (c : Cartridge) (save : Option Image) : Memory :=
  match save with
  | some f => if c.battery then (f.bytes.below f.size).below (c.ramBanks * 0x2000) else []
  | none => []

/-! ## The launch -/

/-- The mode a PPU phase is in (R66, D41): the reference phase (0, 0) is in mode 2. -/
def phaseMode (ly dot : Nat) : PpuMode :=
  if 144 ≤ ly then .vblank else if dot < 80 then .oamScan else if dot < 80 + 172 then .transfer else .hblank

/-- The PPU at reset in another phase than the reference one (PPU_RESET_PHASE is OPEN, R8, R66). -/
def Ppu.resetAt (ly dot : Nat) : Ppu :=
  { Ppu.reset with ly := ly, dot := dot, mode := phaseMode ly dot, coincidence := decide (ly = Ppu.reset.lyc.toNat) }

/-- What a reset sets beside the cartridge: the parameters RESET_REGS, RESET_IO, DIV_RESET, PPU_RESET_PHASE, APU_RESET and INIT_RAM
of R8 as the state they give. -/
structure ResetValues where
  cpu : Cpu
  ifReg : Byte
  ie : Byte
  timer : Timer
  serial : Serial
  joypad : Joypad
  dma : Dma
  ppu : Ppu
  apu : Apu
  vram : Memory
  oam : Memory
  wram : Memory
  hram : Memory
  deriving DecidableEq, Repr

/-- The defaults of R38, R60, R63 to R69, with F by the header checksum byte. -/
def ResetValues.default (headerChecksum : Byte) : ResetValues :=
  { cpu := .reset headerChecksum, ifReg := 0x00, ie := 0x00, timer := .reset, serial := .reset, joypad := .reset, dma := .reset,
    ppu := .reset, apu := .reset, vram := [], oam := [], wram := [], hram := [] }

/-- The launch of a loaded cartridge (R800), from given reset values. -/
def launchWith (values : Byte → ResetValues) (params : Params) (img : Image) (save : Option Image) : Except Fault State :=
  match cartridgeOf img with
  | .error e => .error (.loadError e)
  | .ok c =>
    let v := values (headerOf img.bytes).headerChecksum
    .ok
      { cpu := v.cpu, fault := none, ifReg := v.ifReg, ie := v.ie, timer := v.timer, serial := v.serial, joypad := v.joypad,
        dma := v.dma, ppu := v.ppu, apu := v.apu, mapper := .reset (loadedRam c save), cart := c, vram := v.vram, oam := v.oam,
        wram := v.wram, hram := v.hram, buttonsIn := [], out := { persist := [], serialOut := [], samples := [] },
        params := params }

/-- The launch with the default reset values (R800). -/
def launch (params : Params) (img : Image) (save : Option Image) : Except Fault State :=
  launchWith ResetValues.default params img save

end Sys2Proof.Machine
end

