-- ==== Sys2Proof/Safety.lean ====
section
/-! DEFINITION. What a safe run is: the machine's invariant (the ranges and reserved bits of 10_state.md and of the device files),
frames, and runs without a fault. -/

namespace Sys2Proof

/-! ## Operand codes, as the encodings number them (R183 to R185, R189, R192) -/

def R8.code : R8 → Nat
  | .b => 0
  | .c => 1
  | .d => 2
  | .e => 3
  | .h => 4
  | .l => 5
  | .a => 7

def Opnd8.code : Opnd8 → Nat
  | .reg r => R8.code r
  | .indHl => 6

def R16.code : R16 → Nat
  | .bc => 0
  | .de => 1
  | .hl => 2
  | .sp => 3

def R16Stk.code : R16Stk → Nat
  | .bc => 0
  | .de => 1
  | .hl => 2
  | .af => 3

def R16Mem.code : R16Mem → Nat
  | .bc => 0
  | .de => 1
  | .hlInc => 2
  | .hlDec => 3

def Cond.code : Cond → Nat
  | .nz => 0
  | .z => 1
  | .nc => 2
  | .c => 3

def AluOp.code : AluOp → Nat
  | .add => 0
  | .adc => 1
  | .sub => 2
  | .sbc => 3
  | .and => 4
  | .xor => 5
  | .or => 6
  | .cp => 7

def RotOp.code : RotOp → Nat
  | .rlc => 0
  | .rrc => 1
  | .rl => 2
  | .rr => 3
  | .sla => 4
  | .sra => 5
  | .swap => 6
  | .srl => 7

/-- One byte of an encoding. -/
def opByte (n : Nat) : Byte := BitVec.ofNat 8 n

/-- The 8-bit registers that make up a pair (R31). -/
def R16.halves : R16 → List R8
  | .bc => [.b, .c]
  | .de => [.d, .e]
  | .hl => [.h, .l]
  | .sp => []

/-- The 8-bit registers that make up a stack pair, F apart (R31). -/
def R16Stk.halves : R16Stk → List R8
  | .bc => [.b, .c]
  | .de => [.d, .e]
  | .hl => [.h, .l]
  | .af => [.a]

/-- Whether a condition holds (R400). -/
def Cond.test (k : Cond) (z c : Bool) : Prop :=
  match k with
  | .nz => z = false
  | .z => z = true
  | .nc => c = false
  | .c => c = true

end Sys2Proof

namespace Sys2Proof.Machine

/-! ## The invariant, part by part -/

/-- F's low nibble is 0 (R32), and a slot has at most 6 M-cycles (R520, R820). -/
structure Cpu.Inv (c : Cpu) : Prop where
  f_low : c.f &&& 0x0F = 0
  busy_le : c.busy ≤ 5

/-- TAC stores bits 2..0 (R47). -/
structure Timer.Inv (t : Timer) : Prop where
  tac_bits : t.tac &&& 0xF8 = 0

/-- SC stores bits 7 and 0 (R43); the shifter's ranges (R64); a transfer in progress is one that SC shows as started with the
internal clock (R530). -/
structure Serial.Inv (p : Serial) : Prop where
  sc_bits : p.sc &&& 0x7E = 0
  bits_le : p.bits ≤ 8
  clock_lt : p.clock < 512
  clock_dots : p.clock % 4 = 0
  busy : 0 < p.bits → p.sc = 0x81

/-- P1 stores bits 5..4 (R41). -/
structure Joypad.Inv (j : Joypad) : Prop where
  p1_bits : j.p1 &&& 0xCF = 0

/-- The DMA engine's ranges (R65), and its source is the page in its register (R120). -/
structure Dma.Inv (d : Dma) : Prop where
  index_le : d.index ≤ 160
  active_lt : d.active = true → d.index < 160
  phase_lt : d.phase < 4
  src_page : d.active = true → d.src = pairOf d.reg 0

/-- 144 rows of 160 pixels (R637). -/
def Frame.full (f : Frame) : Prop := f.length = 144 ∧ ∀ row ∈ f, row.length = 160

/-- The PPU's ranges (R66, R603, R620) and the bits STAT does not store (R51). -/
structure Ppu.Ranges (p : Ppu) : Prop where
  stat_bits : p.stat &&& 0x87 = 0
  ly_lt : p.ly < 154
  dot_lt : p.dot < 456
  cand_le : p.cand.length ≤ 10
  cand_lt : ∀ i ∈ p.cand, i < 40
  mode3_ge : 172 ≤ p.mode3Len
  mode3_le : p.mode3Len ≤ 289
  work_full : p.fbWork.full
  pub_full : ∀ f, p.fbPub = some f → f.full

/-- The mode of dot `dot` of line `ly` when mode 3 of the line has `len` dots (R600, R602). -/
def modeAt (len ly dot : Nat) : PpuMode :=
  if 144 ≤ ly then .vblank else if dot < 80 then .oamScan else if dot < 80 + len then .transfer else .hblank

/-- The ranges, and the mode: with the LCD off line 0, dot 0, mode 0 (R640); with it on the mode of the dot last done (R600). -/
structure Ppu.Inv (p : Ppu) : Prop extends p.Ranges where
  off : p.lcdOn = false → p.ly = 0 ∧ p.dot = 0 ∧ p.mode = .hblank
  in_line : p.lcdOn = true → 0 < p.dot → p.mode = modeAt p.mode3Len p.ly (p.dot - 1)
  in_vblank : p.lcdOn = true → 144 < p.ly → p.mode = .vblank

/-- A pulse channel's ranges (R67, R752). -/
structure Pulse.Inv (c : Pulse) : Prop where
  len_le : c.len ≤ 64
  vol_le : c.vol ≤ 15
  env_le : c.envTimer ≤ 7
  duty_lt : c.dutyPos < 8

/-- The wave channel's ranges (R67, R752). -/
structure Wave.Inv (c : Wave) : Prop where
  len_le : c.len ≤ 256
  pos_lt : c.pos < 32

/-- The noise channel's ranges (R67, R752). -/
structure Noise.Inv (c : Noise) : Prop where
  len_le : c.len ≤ 64
  vol_le : c.vol ≤ 15
  env_le : c.envTimer ≤ 7

/-- The sweep unit's ranges (R67). -/
structure Sweep.Inv (c : Sweep) : Prop where
  shadow_lt : c.shadow < 2048
  timer_le : c.timer ≤ 8

/-- The APU's ranges (R67, R752), and no channel is on with the power off (R701). -/
structure Apu.Inv (a : Apu) : Prop where
  ch1 : a.ch1.Inv
  ch2 : a.ch2.Inv
  ch3 : a.ch3.Inv
  ch4 : a.ch4.Inv
  sweep : a.sweep.Inv
  fs_lt : a.fsStep < 8
  acc_lt : a.sampleAcc < Config.clockHz
  wave_wf : a.wave.wf
  wave_within : a.wave.within 16
  power_off : a.power = false → a.ch1.on = false ∧ a.ch2.on = false ∧ a.ch3.on = false ∧ a.ch4.on = false

/-- Every byte array is in canonical form and inside its size (R62); IF stores bits 4..0 (R48). -/
structure State.Inv (s : State) : Prop where
  cpu : s.cpu.Inv
  if_bits : s.ifReg &&& 0xE0 = 0
  timer : s.timer.Inv
  serial : s.serial.Inv
  joypad : s.joypad.Inv
  dma : s.dma.Inv
  ppu : s.ppu.Inv
  apu : s.apu.Inv
  vram_wf : s.vram.wf
  vram_within : s.vram.within 0x2000
  oam_wf : s.oam.wf
  oam_within : s.oam.within 0xA0
  wram_wf : s.wram.wf
  wram_within : s.wram.within 0x2000
  hram_wf : s.hram.wf
  hram_within : s.hram.within 0x7F
  ram_wf : s.mapper.ram.wf
  ram_within : s.mapper.ram.within (s.cart.ramBanks * 0x2000)

/-! ## Frames: what a step of one instruction may and may not change -/

/-- Every bus address reads as before. -/
def SameBytes (s t : State) : Prop := ∀ a, busRead t a = busRead s a

/-- Nothing outside the CPU changed: no byte of memory, no device, no observation, no host input. -/
def OnlyCpu (s t : State) : Prop := { t with cpu := s.cpu } = s ∧ SameBytes s t

/-- Every 8-bit register but those listed is as before. -/
def KeepsRegs (s t : State) (written : List R8) : Prop := ∀ r, r ∉ written → t.cpu.get8 r = s.cpu.get8 r

/-- The pc passes an instruction of `len` bytes that reports `cycles` T-cycles; IME and the halted mark are as before. -/
def Passes (s t : State) (len : Word) (cycles : Nat) : Prop :=
  t.cpu.pc = s.cpu.pc + len ∧ t.reported = cycles ∧ t.cpu.ime = s.cpu.ime ∧ t.cpu.halted = s.cpu.halted

/-- The pc takes a target and `cycles` T-cycles are reported; IME and the halted mark are as before. -/
def JumpsTo (s t : State) (target : Word) (cycles : Nat) : Prop :=
  t.cpu.pc = target ∧ t.reported = cycles ∧ t.cpu.ime = s.cpu.ime ∧ t.cpu.halted = s.cpu.halted

/-- The four flags, and F's low nibble 0 (R32, R33). -/
def HasFlags (t : State) (z n h c : Bool) : Prop := t.cpu.flags = ⟨z, n, h, c⟩ ∧ t.cpu.f &&& 0x0F = 0

/-- An address whose byte is plain storage, or no storage at all: not a mapper register and not an I/O register. -/
def PlainAddress (a : Word) : Prop := 0x8000 ≤ a.toNat ∧ a.toNat < 0xFF00 ∨ 0xFF80 ≤ a.toNat

/-- The other address of a work-RAM byte that has two (R114). -/
def EchoTwin (a b : Word) : Prop :=
  (0xC000 ≤ a.toNat ∧ a.toNat < 0xDE00 ∧ b.toNat = a.toNat + 0x2000)
    ∨ (0xE000 ≤ a.toNat ∧ a.toNat < 0xFE00 ∧ b.toNat + 0x2000 = a.toNat)

/-- Every byte array and IE are as before. -/
def KeepsArrays (s t : State) : Prop :=
  t.vram = s.vram ∧ t.oam = s.oam ∧ t.wram = s.wram ∧ t.hram = s.hram ∧ t.ie = s.ie ∧ t.mapper.ram = s.mapper.ram
    ∧ t.cart = s.cart

/-- Outside the CPU the step is one bus write of `v` at `a`. A store to a plain address changes no other byte but the echo of that
one; a store to a mapper or I/O register changes no byte array. -/
def StoresByte (s t : State) (a : Word) (v : Byte) : Prop :=
  { t with cpu := s.cpu } = busWrite s a v
    ∧ (PlainAddress a → ∀ b, b ≠ a → ¬EchoTwin a b → busRead t b = busRead s b)
    ∧ (¬PlainAddress a → KeepsArrays s t)

/-- Outside the CPU the step is a bus write of the low byte of `v` at `a` and then of its high byte at `a + 1`; two plain addresses
change no other byte but their echoes. -/
def StoresWord (s t : State) (a v : Word) : Prop :=
  { t with cpu := s.cpu } = busWrite (busWrite s a (loByte v)) (a + 1) (hiByte v)
    ∧ (PlainAddress a → PlainAddress (a + 1) →
        ∀ b, b ≠ a → b ≠ a + 1 → ¬EchoTwin a b → ¬EchoTwin (a + 1) b → busRead t b = busRead s b)
    ∧ (¬PlainAddress a → ¬PlainAddress (a + 1) → KeepsArrays s t)

/-- The 8-bit operand takes `v`: a register alone, or the byte at HL through the bus. -/
def WritesOperand (s t : State) (o : Opnd8) (v : Byte) : Prop :=
  match o with
  | .reg r => t.cpu.get8 r = v ∧ KeepsRegs s t [r] ∧ OnlyCpu s t
  | .indHl => KeepsRegs s t [] ∧ StoresByte s t s.cpu.hl v

/-- A number by the kind of operand: a register, or the byte at HL. -/
def byOperand (o : Opnd8) (reg mem : Nat) : Nat :=
  match o with
  | .reg _ => reg
  | .indHl => mem

/-- The machine is at an instruction boundary: no fault, no slot left, not halted (R520). -/
def AtBoundary (s : State) : Prop := s.fault = none ∧ s.cpu.busy = 0 ∧ s.cpu.halted = false

/-- No interrupt is dispatched at this boundary (R503). -/
def Undisturbed (s : State) : Prop := s.cpu.ime ≠ .enabled ∨ s.ie &&& s.ifReg &&& 0x1F = 0

/-! ## Runs -/

/-- `n` M-cycles from s end in t. -/
inductive Run : Nat → State → State → Prop where
  | refl (s : State) : Run 0 s s
  | step {n : Nat} {s t u : State} (h : Run n s t) (hs : step t = .next u) : Run (n + 1) s u

/-- A safe run: `n` M-cycles pass without a fault. -/
def SafeFor (n : Nat) (s : State) : Prop := ∃ t, Run n s t

end Sys2Proof.Machine
end

