-- ==== Sys2Proof/Certificates/Slice0/Obligations.lean ====
section
/-! DEFINITION. The statements about this machine, for the provers. Each docstring names the rules it formalises. A statement about an
instruction has as its conclusion that `exec` answers a next state, what it holds, and all it leaves alone. -/

open Sys2Proof Sys2Proof.Machine

/-! ## Encoding (30_encoding.md) -/

/-- Decoding the bytes of a well-formed instruction gives that instruction and the bytes after it (R180 to R192, R199, R200). -/
def Obligations.DecodeInvertsEncode : Prop :=
  ∀ (i : Instr) (rest : List Byte), i.wellFormed = true → decode (encode i ++ rest) = .ok (i, rest)

/-- Whatever decodes is a well-formed instruction whose encoding is exactly the bytes read: every bit of the words read counts, and
no two words share a meaning (R180, R195). For STOP, whose second byte R195 says is ignored, this holds only by the model's choice to
keep that byte as an operand (DESIGN CHOICE, log entry 18). -/
def Obligations.EncodeInvertsDecode : Prop :=
  ∀ (bs : List Byte) (i : Instr) (rest : List Byte), decode bs = .ok (i, rest) → i.wellFormed = true ∧ encode i ++ rest = bs

/-- Words written out from the encodings of the instruction rules decode to the instructions they stand for. -/
def Obligations.SpecWordsDecode : Prop :=
  decode [0x78] = .ok (.ldAB, []) ∧ decode [0x36, 0x7F] = .ok (.ldIndHlD8 0x7F, []) ∧
  decode [0x08, 0x00, 0xC0] = .ok (.ldIndA16Sp 0xC000, []) ∧ decode [0xF0, 0x44] = .ok (.ldhAIndA8 0x44, []) ∧
  decode [0xF5] = .ok (.pushAf, []) ∧ decode [0x9C] = .ok (.sbcAH, []) ∧ decode [0xCE, 0x0F] = .ok (.adcAD8 0x0F, []) ∧
  decode [0x27] = .ok (.daa, []) ∧ decode [0x39] = .ok (.addHlSp, []) ∧ decode [0xE8, 0x08] = .ok (.addSpE8 0x08, []) ∧
  decode [0xCB, 0x37] = .ok (.swapA, []) ∧ decode [0xCB, 0x7C] = .ok (.bit7H, []) ∧ decode [0xCB, 0xDE] = .ok (.set3IndHl, []) ∧
  decode [0x20, 0x05] = .ok (.jrNzE8 0x05, []) ∧ decode [0xCD, 0x34, 0x12] = .ok (.callA16 0x1234, []) ∧
  decode [0xEF] = .ok (.rst28, []) ∧ decode [0xD9] = .ok (.reti, []) ∧ decode [0x76] = .ok (.halt, []) ∧
  decode [0xFB] = .ok (.ei, []) ∧ decode [0x10, 0x00] = .ok (.stop 0x00, []) ∧ decode [0xDD] = .ok (.illegalDD, [])

/-! ## Loads (40_loads.md) -/

/-- R230, R231 and R233: `LD r,r'` (49 forms, LD B,B to LD A,A), `LD r,(HL)` (7 forms, through the old HL) and `LD r,d8` (7 forms). -/
def Obligations.LoadRegister : Prop :=
  ∀ (dst : R8) (s : State),
    (∀ src : R8, encode (Instr.ldReg dst src) = [opByte (0x40 + 8 * dst.code + src.code)] ∧
      ∃ t, exec (Instr.ldReg dst src) s = .next t ∧
        t.cpu.get8 dst = s.cpu.get8 src ∧ KeepsRegs s t [dst] ∧ t.cpu.f = s.cpu.f ∧ t.cpu.sp = s.cpu.sp ∧ Passes s t 1 4 ∧
        OnlyCpu s t) ∧
    (encode (Instr.ldFromHl dst) = [opByte (0x46 + 8 * dst.code)] ∧
      ∃ t, exec (Instr.ldFromHl dst) s = .next t ∧
        t.cpu.get8 dst = busRead s (pairOf s.cpu.h s.cpu.l) ∧ KeepsRegs s t [dst] ∧ t.cpu.f = s.cpu.f ∧ t.cpu.sp = s.cpu.sp ∧
        Passes s t 1 8 ∧ OnlyCpu s t) ∧
    (∀ n : Byte, encode (Instr.ldRegImm dst n) = [opByte (0x06 + 8 * dst.code), n] ∧
      ∃ t, exec (Instr.ldRegImm dst n) s = .next t ∧
        t.cpu.get8 dst = n ∧ KeepsRegs s t [dst] ∧ t.cpu.f = s.cpu.f ∧ t.cpu.sp = s.cpu.sp ∧ Passes s t 2 8 ∧ OnlyCpu s t)

/-- R232 and R234: `LD (HL),r`, 7 forms, and `LD (HL),d8`, store one byte at HL. -/
def Obligations.StoreThroughHl : Prop :=
  (∀ (src : R8) (s : State),
    encode (Instr.ldToHl src) = [opByte (0x70 + src.code)] ∧
    ∃ t, exec (Instr.ldToHl src) s = .next t ∧
      StoresByte s t (pairOf s.cpu.h s.cpu.l) (s.cpu.get8 src) ∧ KeepsRegs s t [] ∧ t.cpu.f = s.cpu.f ∧ t.cpu.sp = s.cpu.sp ∧
      Passes s t 1 8) ∧
  (∀ (n : Byte) (s : State),
    encode (.ldIndHlD8 n) = [0x36, n] ∧
    ∃ t, exec (.ldIndHlD8 n) s = .next t ∧
      StoresByte s t (pairOf s.cpu.h s.cpu.l) n ∧ KeepsRegs s t [] ∧ t.cpu.f = s.cpu.f ∧ t.cpu.sp = s.cpu.sp ∧ Passes s t 2 12)

/-- R235, R237, R238: `LD A,(BC)`, `LD A,(DE)`, `LD A,(HL+)`, `LD A,(HL-)`. -/
def Obligations.LoadAThroughPair : Prop :=
  ∀ (m : R16Mem) (s : State),
    encode (Instr.ldAFrom m) = [opByte (0x0A + 16 * m.code)] ∧
    ∃ t, exec (Instr.ldAFrom m) s = .next t ∧ t.cpu.f = s.cpu.f ∧ t.cpu.sp = s.cpu.sp ∧ Passes s t 1 8 ∧ OnlyCpu s t ∧
      match m with
      | .bc => t.cpu.a = busRead s (pairOf s.cpu.b s.cpu.c) ∧ KeepsRegs s t [.a]
      | .de => t.cpu.a = busRead s (pairOf s.cpu.d s.cpu.e) ∧ KeepsRegs s t [.a]
      | .hlInc =>
        t.cpu.a = busRead s (pairOf s.cpu.h s.cpu.l) ∧ pairOf t.cpu.h t.cpu.l = pairOf s.cpu.h s.cpu.l + 1 ∧ KeepsRegs s t [.a, .h, .l]
      | .hlDec =>
        t.cpu.a = busRead s (pairOf s.cpu.h s.cpu.l) ∧ pairOf t.cpu.h t.cpu.l = pairOf s.cpu.h s.cpu.l - 1 ∧ KeepsRegs s t [.a, .h, .l]

/-- R236, R239, R240: `LD (BC),A`, `LD (DE),A`, `LD (HL+),A`, `LD (HL-),A`. -/
def Obligations.StoreAThroughPair : Prop :=
  ∀ (m : R16Mem) (s : State),
    encode (Instr.ldATo m) = [opByte (0x02 + 16 * m.code)] ∧
    ∃ t, exec (Instr.ldATo m) s = .next t ∧ t.cpu.f = s.cpu.f ∧ t.cpu.sp = s.cpu.sp ∧ Passes s t 1 8 ∧
      match m with
      | .bc => StoresByte s t (pairOf s.cpu.b s.cpu.c) s.cpu.a ∧ KeepsRegs s t []
      | .de => StoresByte s t (pairOf s.cpu.d s.cpu.e) s.cpu.a ∧ KeepsRegs s t []
      | .hlInc =>
        StoresByte s t (pairOf s.cpu.h s.cpu.l) s.cpu.a ∧ pairOf t.cpu.h t.cpu.l = pairOf s.cpu.h s.cpu.l + 1 ∧ KeepsRegs s t [.h, .l]
      | .hlDec =>
        StoresByte s t (pairOf s.cpu.h s.cpu.l) s.cpu.a ∧ pairOf t.cpu.h t.cpu.l = pairOf s.cpu.h s.cpu.l - 1 ∧ KeepsRegs s t [.h, .l]

/-- R241, R246, R248: `LD A,(a16)`, `LDH A,(a8)`, `LD A,(C)`; a high-page address is 0xFF00 plus a byte. -/
def Obligations.LoadAFromAddress : Prop :=
  (∀ (w : Word) (s : State), encode (.ldAIndA16 w) = [0xFA, loByte w, hiByte w] ∧
    ∃ t, exec (.ldAIndA16 w) s = .next t ∧
      t.cpu.a = busRead s w ∧ KeepsRegs s t [.a] ∧ t.cpu.f = s.cpu.f ∧ t.cpu.sp = s.cpu.sp ∧ Passes s t 3 16 ∧ OnlyCpu s t) ∧
  (∀ (n : Byte) (s : State), encode (.ldhAIndA8 n) = [0xF0, n] ∧
    ∃ t, exec (.ldhAIndA8 n) s = .next t ∧
      t.cpu.a = busRead s (BitVec.ofNat 16 (0xFF00 + n.toNat)) ∧ KeepsRegs s t [.a] ∧ t.cpu.f = s.cpu.f ∧ t.cpu.sp = s.cpu.sp ∧
      Passes s t 2 12 ∧ OnlyCpu s t) ∧
  (∀ s : State, encode .ldAIndC = [0xF2] ∧
    ∃ t, exec .ldAIndC s = .next t ∧
      t.cpu.a = busRead s (BitVec.ofNat 16 (0xFF00 + s.cpu.c.toNat)) ∧ KeepsRegs s t [.a] ∧ t.cpu.f = s.cpu.f ∧
      t.cpu.sp = s.cpu.sp ∧ Passes s t 1 8 ∧ OnlyCpu s t)

/-- R242, R247, R249: `LD (a16),A`, `LDH (a8),A`, `LD (C),A`. -/
def Obligations.StoreAToAddress : Prop :=
  (∀ (w : Word) (s : State), encode (.ldIndA16A w) = [0xEA, loByte w, hiByte w] ∧
    ∃ t, exec (.ldIndA16A w) s = .next t ∧
      StoresByte s t w s.cpu.a ∧ KeepsRegs s t [] ∧ t.cpu.f = s.cpu.f ∧ t.cpu.sp = s.cpu.sp ∧ Passes s t 3 16) ∧
  (∀ (n : Byte) (s : State), encode (.ldhIndA8A n) = [0xE0, n] ∧
    ∃ t, exec (.ldhIndA8A n) s = .next t ∧
      StoresByte s t (BitVec.ofNat 16 (0xFF00 + n.toNat)) s.cpu.a ∧ KeepsRegs s t [] ∧ t.cpu.f = s.cpu.f ∧ t.cpu.sp = s.cpu.sp ∧
      Passes s t 2 12) ∧
  (∀ s : State, encode .ldIndCA = [0xE2] ∧
    ∃ t, exec .ldIndCA s = .next t ∧
      StoresByte s t (BitVec.ofNat 16 (0xFF00 + s.cpu.c.toNat)) s.cpu.a ∧ KeepsRegs s t [] ∧ t.cpu.f = s.cpu.f ∧
      t.cpu.sp = s.cpu.sp ∧ Passes s t 1 8)

/-- R243 and R245: `LD rr,d16` for BC, DE, HL and SP, and `LD SP,HL`. -/
def Obligations.LoadPair : Prop :=
  (∀ (r : R16) (w : Word) (s : State), encode (Instr.ldPair r w) = [opByte (0x01 + 16 * r.code), loByte w, hiByte w] ∧
    ∃ t, exec (Instr.ldPair r w) s = .next t ∧
      t.cpu.get16 r = w ∧ KeepsRegs s t r.halves ∧ (r ≠ .sp → t.cpu.sp = s.cpu.sp) ∧ t.cpu.f = s.cpu.f ∧ Passes s t 3 12 ∧
      OnlyCpu s t) ∧
  (∀ s : State, encode .ldSpHl = [0xF9] ∧
    ∃ t, exec .ldSpHl s = .next t ∧
      t.cpu.sp = pairOf s.cpu.h s.cpu.l ∧ KeepsRegs s t [] ∧ t.cpu.f = s.cpu.f ∧ Passes s t 1 8 ∧ OnlyCpu s t)

/-- R244, `LD (a16),SP`: the low byte of SP at the address and the high byte after it; at 0xFFFF the fault of R106. -/
def Obligations.StoreStackPointer : Prop :=
  ∀ (w : Word) (s : State), encode (.ldIndA16Sp w) = [0x08, loByte w, hiByte w] ∧
    (w ≠ 0xFFFF → ∃ t, exec (.ldIndA16Sp w) s = .next t ∧
      StoresWord s t w s.cpu.sp ∧ KeepsRegs s t [] ∧ t.cpu.f = s.cpu.f ∧ t.cpu.sp = s.cpu.sp ∧ Passes s t 3 20) ∧
    (w = 0xFFFF → exec (.ldIndA16Sp w) s = .fault (.wrapAccess16 0xFFFF s.cpu.pc))

/-- R250, `PUSH rr` for BC, DE, HL and AF: the pair goes below SP, low byte first; with SP = 0x0001 the fault of R106. -/
def Obligations.PushPair : Prop :=
  ∀ (r : R16Stk) (s : State), encode (Instr.pushStk r) = [opByte (0xC5 + 16 * r.code)] ∧
    (s.cpu.sp ≠ 0x0001 → ∃ t, exec (Instr.pushStk r) s = .next t ∧
      StoresWord s t (s.cpu.sp - 2)
        (match r with
          | .bc => pairOf s.cpu.b s.cpu.c
          | .de => pairOf s.cpu.d s.cpu.e
          | .hl => pairOf s.cpu.h s.cpu.l
          | .af => pairOf s.cpu.a (s.cpu.f &&& 0xF0)) ∧
      t.cpu.sp = s.cpu.sp - 2 ∧ KeepsRegs s t [] ∧ t.cpu.f = s.cpu.f ∧ Passes s t 1 16) ∧
    (s.cpu.sp = 0x0001 → exec (Instr.pushStk r) s = .fault (.wrapAccess16 0xFFFF s.cpu.pc))

/-- R251 and R254, `POP rr` for BC, DE, HL and AF: F takes the low byte without its low nibble; with SP = 0xFFFF the fault of R106. -/
def Obligations.PopPair : Prop :=
  ∀ (r : R16Stk) (s : State), encode (Instr.popStk r) = [opByte (0xC1 + 16 * r.code)] ∧
    (s.cpu.sp ≠ 0xFFFF → ∃ t, exec (Instr.popStk r) s = .next t ∧
      (let lo := busRead s s.cpu.sp
       let hi := busRead s (s.cpu.sp + 1)
       match r with
       | .bc => t.cpu.b = hi ∧ t.cpu.c = lo ∧ t.cpu.f = s.cpu.f
       | .de => t.cpu.d = hi ∧ t.cpu.e = lo ∧ t.cpu.f = s.cpu.f
       | .hl => t.cpu.h = hi ∧ t.cpu.l = lo ∧ t.cpu.f = s.cpu.f
       | .af => t.cpu.a = hi ∧ t.cpu.f = lo &&& 0xF0) ∧
      t.cpu.sp = s.cpu.sp + 2 ∧ KeepsRegs s t r.halves ∧ Passes s t 1 12 ∧ OnlyCpu s t) ∧
    (s.cpu.sp = 0xFFFF → exec (Instr.popStk r) s = .fault (.wrapAccess16 0xFFFF s.cpu.pc))

/-- R252: a pair pushed onto a work-RAM stack and then popped into any pair is returned, F without its low nibble. -/
def Obligations.PushThenPop : Prop :=
  ∀ (r q : R16Stk) (s t u : State), 0xC002 ≤ s.cpu.sp.toNat → s.cpu.sp.toNat ≤ 0xDFFF →
    exec (Instr.pushStk r) s = .next t → exec (Instr.popStk q) t = .next u →
    u.cpu.sp = s.cpu.sp ∧
    u.cpu.getStk q = if q = .af then s.cpu.getStk r &&& 0xFFF0 else s.cpu.getStk r

/-! ## 8-bit arithmetic and logic (41_alu8.md) -/

/-- R281 and R282: ADD and ADC with a register, the byte at HL (18 forms with the immediate ones). -/
def Obligations.AddAndAdc : Prop :=
  ∀ (withCarry : Bool) (s : State),
    let op : AluOp := if withCarry then .adc else .add
    let cin := if withCarry ∧ s.cpu.flags.c = true then 1 else 0
    let result (t : State) (b len cycles : Nat) : Prop :=
      t.cpu.a.toNat = (s.cpu.a.toNat + b + cin) % 256 ∧
      HasFlags t (decide ((s.cpu.a.toNat + b + cin) % 256 = 0)) false
        (decide (16 ≤ s.cpu.a.toNat % 16 + b % 16 + cin)) (decide (256 ≤ s.cpu.a.toNat + b + cin)) ∧
      KeepsRegs s t [.a] ∧ t.cpu.sp = s.cpu.sp ∧ Passes s t (BitVec.ofNat 16 len) cycles ∧ OnlyCpu s t
    (∀ o : Opnd8, encode (Instr.alu op o) = [opByte (0x80 + 8 * op.code + o.code)] ∧
      ∃ t, exec (Instr.alu op o) s = .next t ∧ result t (s.getOpnd o).toNat 1 (byOperand o 4 8)) ∧
    (∀ n : Byte, encode (Instr.aluD8 op n) = [opByte (0xC6 + 8 * op.code), n] ∧
      ∃ t, exec (Instr.aluD8 op n) s = .next t ∧ result t n.toNat 2 8)

/-- R283, R284, R288: SUB, SBC and CP; CP writes the flags only. The borrow of SBC is the C flag. -/
def Obligations.SubSbcAndCp : Prop :=
  ∀ (op : AluOp) (s : State), op = .sub ∨ op = .sbc ∨ op = .cp →
    let cin := if op = .sbc ∧ s.cpu.flags.c = true then 1 else 0
    let a := s.cpu.a.toNat
    let result (t : State) (b len cycles : Nat) : Prop :=
      t.cpu.a.toNat = (if op = .cp then a else (a + 512 - b - cin) % 256) ∧
      HasFlags t (decide ((a + 512 - b - cin) % 256 = 0)) true (decide (a % 16 < b % 16 + cin)) (decide (a < b + cin)) ∧
      KeepsRegs s t [.a] ∧ t.cpu.sp = s.cpu.sp ∧ Passes s t (BitVec.ofNat 16 len) cycles ∧ OnlyCpu s t
    (∀ o : Opnd8, encode (Instr.alu op o) = [opByte (0x80 + 8 * op.code + o.code)] ∧
      ∃ t, exec (Instr.alu op o) s = .next t ∧ result t (s.getOpnd o).toNat 1 (byOperand o 4 8)) ∧
    (∀ n : Byte, encode (Instr.aluD8 op n) = [opByte (0xC6 + 8 * op.code), n] ∧
      ∃ t, exec (Instr.aluD8 op n) s = .next t ∧ result t n.toNat 2 8)

/-- R285 to R287: AND, XOR and OR, bit by bit. -/
def Obligations.AndXorOr : Prop :=
  ∀ (op : AluOp) (s : State), op = .and ∨ op = .xor ∨ op = .or →
    let result (t : State) (b : Byte) (len cycles : Nat) : Prop :=
      (∀ k, k < 8 → bit t.cpu.a k =
        if op = .and then bit s.cpu.a k && bit b k else if op = .xor then bit s.cpu.a k != bit b k else bit s.cpu.a k || bit b k) ∧
      HasFlags t (decide (t.cpu.a = 0)) false (decide (op = .and)) false ∧
      KeepsRegs s t [.a] ∧ t.cpu.sp = s.cpu.sp ∧ Passes s t (BitVec.ofNat 16 len) cycles ∧ OnlyCpu s t
    (∀ o : Opnd8, encode (Instr.alu op o) = [opByte (0x80 + 8 * op.code + o.code)] ∧
      ∃ t, exec (Instr.alu op o) s = .next t ∧ result t (s.getOpnd o) 1 (byOperand o 4 8)) ∧
    (∀ n : Byte, encode (Instr.aluD8 op n) = [opByte (0xC6 + 8 * op.code), n] ∧
      ∃ t, exec (Instr.aluD8 op n) s = .next t ∧ result t n 2 8)

/-- R289 to R292: INC and DEC of a register or of the byte at HL; C is kept. -/
def Obligations.IncAndDec : Prop :=
  ∀ (o : Opnd8) (s : State),
    (encode (Instr.inc8 o) = [opByte (0x04 + 8 * o.code)] ∧
      ∃ t, exec (Instr.inc8 o) s = .next t ∧
        WritesOperand s t o (BitVec.ofNat 8 ((s.getOpnd o).toNat + 1)) ∧
        HasFlags t (decide ((s.getOpnd o).toNat = 255)) false (decide ((s.getOpnd o).toNat % 16 = 15)) s.cpu.flags.c ∧
        t.cpu.sp = s.cpu.sp ∧ Passes s t 1 (byOperand o 4 12)) ∧
    (encode (Instr.dec8 o) = [opByte (0x05 + 8 * o.code)] ∧
      ∃ t, exec (Instr.dec8 o) s = .next t ∧
        WritesOperand s t o (BitVec.ofNat 8 ((s.getOpnd o).toNat + 255)) ∧
        HasFlags t (decide ((s.getOpnd o).toNat = 1)) true (decide ((s.getOpnd o).toNat % 16 = 0)) s.cpu.flags.c ∧
        t.cpu.sp = s.cpu.sp ∧ Passes s t 1 (byOperand o 4 12))

/-- R293, DAA: the adjustment of the pseudocode, both tests on A before it. -/
def Obligations.DecimalAdjust : Prop :=
  ∀ s : State,
    let a := s.cpu.a.toNat
    let low := s.cpu.flags.h = true ∨ (s.cpu.flags.n = false ∧ 9 < a % 16)
    let high := s.cpu.flags.c = true ∨ (s.cpu.flags.n = false ∧ 0x99 < a)
    encode .daa = [0x27] ∧
    ∃ t, exec .daa s = .next t ∧
      (∀ adj : Nat,
        (¬low ∧ ¬high → adj = 0) → (low ∧ ¬high → adj = 6) → (¬low ∧ high → adj = 0x60) → (low ∧ high → adj = 0x66) →
        t.cpu.a.toNat = (if s.cpu.flags.n = true then a + 256 - adj else a + adj) % 256) ∧
      t.cpu.flags.z = decide (t.cpu.a = 0) ∧ t.cpu.flags.n = s.cpu.flags.n ∧ t.cpu.flags.h = false ∧
      (t.cpu.flags.c = true ↔ high) ∧ t.cpu.f &&& 0x0F = 0 ∧
      KeepsRegs s t [.a] ∧ t.cpu.sp = s.cpu.sp ∧ Passes s t 1 4 ∧ OnlyCpu s t

/-- What DAA is for (R293): adding two packed decimal numbers with ADD (or ADC) and adjusting gives the packed decimal sum and its
decimal carry. -/
def Obligations.DecimalAdjustAfterAddition : Prop :=
  ∀ (withCarry : Bool) (x y : Nat) (s t u : State), x < 100 → y < 100 →
    s.cpu.a = BitVec.ofNat 8 (x / 10 * 16 + x % 10) →
    exec (Instr.aluD8 (if withCarry then .adc else .add) (BitVec.ofNat 8 (y / 10 * 16 + y % 10))) s = .next t →
    exec .daa t = .next u →
    let sum := x + y + (if withCarry ∧ s.cpu.flags.c = true then 1 else 0)
    u.cpu.a = BitVec.ofNat 8 (sum / 10 % 10 * 16 + sum % 10) ∧ u.cpu.flags.c = decide (100 ≤ sum) ∧
    u.cpu.flags.z = decide (sum % 100 = 0)

/-- R294 to R296: CPL, SCF and CCF. -/
def Obligations.CplScfCcf : Prop :=
  ∀ s : State,
    (encode .cpl = [0x2F] ∧ ∃ t, exec .cpl s = .next t ∧
      t.cpu.a.toNat = 255 - s.cpu.a.toNat ∧ HasFlags t s.cpu.flags.z true true s.cpu.flags.c ∧ KeepsRegs s t [.a] ∧
      t.cpu.sp = s.cpu.sp ∧ Passes s t 1 4 ∧ OnlyCpu s t) ∧
    (encode .scf = [0x37] ∧ ∃ t, exec .scf s = .next t ∧
      HasFlags t s.cpu.flags.z false false true ∧ KeepsRegs s t [] ∧ t.cpu.sp = s.cpu.sp ∧ Passes s t 1 4 ∧ OnlyCpu s t) ∧
    (encode .ccf = [0x3F] ∧ ∃ t, exec .ccf s = .next t ∧
      HasFlags t s.cpu.flags.z false false (!s.cpu.flags.c) ∧ KeepsRegs s t [] ∧ t.cpu.sp = s.cpu.sp ∧ Passes s t 1 4 ∧
      OnlyCpu s t)

/-! ## 16-bit arithmetic (42_alu16.md) -/

/-- R330, `ADD HL,rr` for BC, DE, HL and SP: H from bit 11, C from bit 15, Z kept. -/
def Obligations.AddToHl : Prop :=
  ∀ (r : R16) (s : State),
    let h := (pairOf s.cpu.h s.cpu.l).toNat
    let v := (s.cpu.get16 r).toNat
    encode (Instr.addHl r) = [opByte (0x09 + 16 * r.code)] ∧
    ∃ t, exec (Instr.addHl r) s = .next t ∧
      (pairOf t.cpu.h t.cpu.l).toNat = (h + v) % 65536 ∧
      HasFlags t s.cpu.flags.z false (decide (4096 ≤ h % 4096 + v % 4096)) (decide (65536 ≤ h + v)) ∧
      KeepsRegs s t [.h, .l] ∧ t.cpu.sp = s.cpu.sp ∧ Passes s t 1 8 ∧ OnlyCpu s t

/-- R331 and R332, `INC rr` and `DEC rr` for BC, DE, HL and SP: no flag, no fault at the wrap. -/
def Obligations.IncAndDecPair : Prop :=
  ∀ (r : R16) (s : State),
    (encode (Instr.inc16 r) = [opByte (0x03 + 16 * r.code)] ∧
      ∃ t, exec (Instr.inc16 r) s = .next t ∧
        (t.cpu.get16 r).toNat = ((s.cpu.get16 r).toNat + 1) % 65536 ∧ KeepsRegs s t r.halves ∧ (r ≠ .sp → t.cpu.sp = s.cpu.sp) ∧
        t.cpu.f = s.cpu.f ∧ Passes s t 1 8 ∧ OnlyCpu s t) ∧
    (encode (Instr.dec16 r) = [opByte (0x0B + 16 * r.code)] ∧
      ∃ t, exec (Instr.dec16 r) s = .next t ∧
        (t.cpu.get16 r).toNat = ((s.cpu.get16 r).toNat + 65535) % 65536 ∧ KeepsRegs s t r.halves ∧
        (r ≠ .sp → t.cpu.sp = s.cpu.sp) ∧ t.cpu.f = s.cpu.f ∧ Passes s t 1 8 ∧ OnlyCpu s t)

/-- R333 and R334, `ADD SP,e8` and `LD HL,SP+e8`: the sum with the signed byte, H and C from the unsigned low bytes, Z and N 0. -/
def Obligations.StackPointerPlusOffset : Prop :=
  ∀ (u : Byte) (s : State),
    let sp := s.cpu.sp.toNat
    let sum : Nat := (if u.toNat < 128 then sp + u.toNat else sp + 65536 + u.toNat - 256) % 65536
    let h := decide (16 ≤ sp % 16 + u.toNat % 16)
    let c := decide (256 ≤ sp % 256 + u.toNat)
    (encode (.addSpE8 u) = [0xE8, u] ∧ ∃ t, exec (.addSpE8 u) s = .next t ∧
      t.cpu.sp.toNat = sum ∧ HasFlags t false false h c ∧ KeepsRegs s t [] ∧ Passes s t 2 16 ∧ OnlyCpu s t) ∧
    (encode (.ldHlSpE8 u) = [0xF8, u] ∧ ∃ t, exec (.ldHlSpE8 u) s = .next t ∧
      (pairOf t.cpu.h t.cpu.l).toNat = sum ∧ HasFlags t false false h c ∧ KeepsRegs s t [.h, .l] ∧ t.cpu.sp = s.cpu.sp ∧
      Passes s t 2 12 ∧ OnlyCpu s t)

/-! ## Rotates, shifts and bits (43_rotate_shift_bit.md) -/

/-- R360 to R363: RLCA, RRCA, RLA and RRA, bit by bit; Z is always 0. -/
def Obligations.AccumulatorRotates : Prop :=
  ∀ s : State,
    let result (t : State) (cy : Bool) : Prop :=
      HasFlags t false false false cy ∧ KeepsRegs s t [.a] ∧ t.cpu.sp = s.cpu.sp ∧ Passes s t 1 4 ∧ OnlyCpu s t
    (encode .rlca = [0x07] ∧ ∃ t, exec .rlca s = .next t ∧ result t (bit s.cpu.a 7) ∧
      bit t.cpu.a 0 = bit s.cpu.a 7 ∧ ∀ k, k < 7 → bit t.cpu.a (k + 1) = bit s.cpu.a k) ∧
    (encode .rrca = [0x0F] ∧ ∃ t, exec .rrca s = .next t ∧ result t (bit s.cpu.a 0) ∧
      bit t.cpu.a 7 = bit s.cpu.a 0 ∧ ∀ k, k < 7 → bit t.cpu.a k = bit s.cpu.a (k + 1)) ∧
    (encode .rla = [0x17] ∧ ∃ t, exec .rla s = .next t ∧ result t (bit s.cpu.a 7) ∧
      bit t.cpu.a 0 = s.cpu.flags.c ∧ ∀ k, k < 7 → bit t.cpu.a (k + 1) = bit s.cpu.a k) ∧
    (encode .rra = [0x1F] ∧ ∃ t, exec .rra s = .next t ∧ result t (bit s.cpu.a 0) ∧
      bit t.cpu.a 7 = s.cpu.flags.c ∧ ∀ k, k < 7 → bit t.cpu.a k = bit s.cpu.a (k + 1))

/-- R365 to R372: RLC, RRC, RL, RR, SLA, SRA, SWAP and SRL of a register or of the byte at HL, 64 forms, bit by bit. -/
def Obligations.PrefixedRotatesAndShifts : Prop :=
  ∀ (op : RotOp) (o : Opnd8) (s : State),
    let v := s.getOpnd o
    let left := op = .rlc ∨ op = .rl ∨ op = .sla
    let cy := if op = .swap then false else if left then bit v 7 else bit v 0
    encode (Instr.rot op o) = [0xCB, opByte (8 * op.code + o.code)] ∧
    ∃ (t : State) (res : Byte), exec (Instr.rot op o) s = .next t ∧ WritesOperand s t o res ∧
      (left → (∀ k, k < 7 → bit res (k + 1) = bit v k) ∧
        bit res 0 = if op = .rlc then bit v 7 else if op = .rl then s.cpu.flags.c else false) ∧
      (op = .swap → ∀ k, k < 8 → bit res k = bit v ((k + 4) % 8)) ∧
      (¬left ∧ op ≠ .swap → (∀ k, k < 7 → bit res k = bit v (k + 1)) ∧
        bit res 7 = if op = .rrc then bit v 0 else if op = .rr then s.cpu.flags.c else if op = .sra then bit v 7 else false) ∧
      HasFlags t (decide (res = 0)) false false cy ∧ t.cpu.sp = s.cpu.sp ∧ Passes s t 2 (byOperand o 8 16)

/-- R373, BIT b, 64 forms: Z is the complement of the bit, C is kept, nothing is written. -/
def Obligations.BitTests : Prop :=
  ∀ (b : Nat) (o : Opnd8) (s : State), b < 8 →
    encode (Instr.bitB b o) = [0xCB, opByte (0x40 + 8 * b + o.code)] ∧
    ∃ t, exec (Instr.bitB b o) s = .next t ∧
      HasFlags t (!bit (s.getOpnd o) b) false true s.cpu.flags.c ∧ KeepsRegs s t [] ∧ t.cpu.sp = s.cpu.sp ∧
      Passes s t 2 (byOperand o 8 12) ∧ OnlyCpu s t

/-- R374 and R375, RES b and SET b, 128 forms: one bit of the operand changes, no flag does, and the byte at HL is always
written. -/
def Obligations.BitResetsAndSets : Prop :=
  ∀ (b : Nat) (o : Opnd8) (s : State), b < 8 →
    (encode (Instr.resB b o) = [0xCB, opByte (0x80 + 8 * b + o.code)] ∧
      ∃ (t : State) (res : Byte), exec (Instr.resB b o) s = .next t ∧ WritesOperand s t o res ∧
        (∀ k, k < 8 → bit res k = (bit (s.getOpnd o) k && decide (k ≠ b))) ∧
        t.cpu.f = s.cpu.f ∧ t.cpu.sp = s.cpu.sp ∧ Passes s t 2 (byOperand o 8 16)) ∧
    (encode (Instr.setB b o) = [0xCB, opByte (0xC0 + 8 * b + o.code)] ∧
      ∃ (t : State) (res : Byte), exec (Instr.setB b o) s = .next t ∧ WritesOperand s t o res ∧
        (∀ k, k < 8 → bit res k = (bit (s.getOpnd o) k || decide (k = b))) ∧
        t.cpu.f = s.cpu.f ∧ t.cpu.sp = s.cpu.sp ∧ Passes s t 2 (byOperand o 8 16))

/-- R445, the prefix byte: with a second byte op2 it executes the prefixed instruction op2, and always completes. -/
def Obligations.PrefixByte : Prop :=
  ∀ (op2 : Byte) (s : State),
    encode (.prefixCb op2) = [0xCB, op2] ∧
    ∃ (i : Instr) (t : State), decode [0xCB, op2] = .ok (i, []) ∧ exec (.prefixCb op2) s = .next t ∧ exec i s = .next t

/-! ## Control transfer (44_control.md) -/

/-- R401, R403, R404: `JP a16`, `JP HL`, `JR e8`; the offset of JR is signed and counts from the next instruction. -/
def Obligations.Jumps : Prop :=
  (∀ (w : Word) (s : State), encode (.jpA16 w) = [0xC3, loByte w, hiByte w] ∧
    ∃ t, exec (.jpA16 w) s = .next t ∧ JumpsTo s t w 16 ∧ KeepsRegs s t [] ∧ t.cpu.f = s.cpu.f ∧ t.cpu.sp = s.cpu.sp ∧ OnlyCpu s t) ∧
  (∀ s : State, encode .jpHl = [0xE9] ∧
    ∃ t, exec .jpHl s = .next t ∧ JumpsTo s t (pairOf s.cpu.h s.cpu.l) 4 ∧ KeepsRegs s t [] ∧ t.cpu.f = s.cpu.f ∧
      t.cpu.sp = s.cpu.sp ∧ OnlyCpu s t) ∧
  (∀ (e : Byte) (s : State), encode (.jrE8 e) = [0x18, e] ∧
    ∃ t, exec (.jrE8 e) s = .next t ∧ JumpsTo s t (BitVec.ofInt 16 (s.cpu.pc.toNat + 2 + e.toInt)) 12 ∧ KeepsRegs s t [] ∧
      t.cpu.f = s.cpu.f ∧ t.cpu.sp = s.cpu.sp ∧ OnlyCpu s t)

/-- R402 and R405: `JP cc,a16` and `JR cc,e8`, taken or not (R400). -/
def Obligations.ConditionalJumps : Prop :=
  ∀ (k : Cond) (s : State),
    (∀ w : Word, encode (Instr.jpCc k w) = [opByte (0xC2 + 8 * k.code), loByte w, hiByte w] ∧
      ∃ t, exec (Instr.jpCc k w) s = .next t ∧
        (k.test s.cpu.flags.z s.cpu.flags.c → JumpsTo s t w 16) ∧ (¬k.test s.cpu.flags.z s.cpu.flags.c → Passes s t 3 12) ∧
        KeepsRegs s t [] ∧ t.cpu.f = s.cpu.f ∧ t.cpu.sp = s.cpu.sp ∧ OnlyCpu s t) ∧
    (∀ e : Byte, encode (Instr.jrCc k e) = [opByte (0x20 + 8 * k.code), e] ∧
      ∃ t, exec (Instr.jrCc k e) s = .next t ∧
        (k.test s.cpu.flags.z s.cpu.flags.c → JumpsTo s t (BitVec.ofInt 16 (s.cpu.pc.toNat + 2 + e.toInt)) 12) ∧
        (¬k.test s.cpu.flags.z s.cpu.flags.c → Passes s t 2 8) ∧
        KeepsRegs s t [] ∧ t.cpu.f = s.cpu.f ∧ t.cpu.sp = s.cpu.sp ∧ OnlyCpu s t)

/-- R406, R407 and R410: `CALL a16`, `CALL cc,a16` and the eight `RST n`: the address of the next instruction is pushed; a call not
taken makes no stack access; with SP = 0x0001 the fault of R106. -/
def Obligations.CallsAndRestarts : Prop :=
  ∀ s : State,
    let calls (t : State) (ret target : Word) (cycles : Nat) : Prop :=
      StoresWord s t (s.cpu.sp - 2) ret ∧ t.cpu.sp = s.cpu.sp - 2 ∧ JumpsTo s t target cycles ∧ KeepsRegs s t [] ∧ t.cpu.f = s.cpu.f
    let wrap : Result := .fault (.wrapAccess16 0xFFFF s.cpu.pc)
    (∀ w : Word, encode (.callA16 w) = [0xCD, loByte w, hiByte w] ∧
      (s.cpu.sp ≠ 0x0001 → ∃ t, exec (.callA16 w) s = .next t ∧ calls t (s.cpu.pc + 3) w 24) ∧
      (s.cpu.sp = 0x0001 → exec (.callA16 w) s = wrap)) ∧
    (∀ y : Nat, y < 8 → encode (Instr.rst y) = [opByte (0xC7 + 8 * y)] ∧
      (s.cpu.sp ≠ 0x0001 → ∃ t, exec (Instr.rst y) s = .next t ∧ calls t (s.cpu.pc + 1) (BitVec.ofNat 16 (y * 8)) 16) ∧
      (s.cpu.sp = 0x0001 → exec (Instr.rst y) s = wrap)) ∧
    (∀ (k : Cond) (w : Word), encode (Instr.callCc k w) = [opByte (0xC4 + 8 * k.code), loByte w, hiByte w] ∧
      (¬k.test s.cpu.flags.z s.cpu.flags.c → ∃ t, exec (Instr.callCc k w) s = .next t ∧
        Passes s t 3 12 ∧ KeepsRegs s t [] ∧ t.cpu.f = s.cpu.f ∧ t.cpu.sp = s.cpu.sp ∧ OnlyCpu s t) ∧
      (k.test s.cpu.flags.z s.cpu.flags.c → s.cpu.sp ≠ 0x0001 →
        ∃ t, exec (Instr.callCc k w) s = .next t ∧ calls t (s.cpu.pc + 3) w 24) ∧
      (k.test s.cpu.flags.z s.cpu.flags.c → s.cpu.sp = 0x0001 → exec (Instr.callCc k w) s = wrap))

/-- R408, R409 and R412, RET, `RET cc` and RETI: the pc takes the word at SP; RETI also sets IME to Enabled at once; a `RET cc` not
taken makes no stack access; with SP = 0xFFFF the fault of R106. -/
def Obligations.Returns : Prop :=
  ∀ s : State,
    let word := pairOf (busRead s (s.cpu.sp + 1)) (busRead s s.cpu.sp)
    let popped (t : State) : Prop := t.cpu.sp = s.cpu.sp + 2 ∧ KeepsRegs s t [] ∧ t.cpu.f = s.cpu.f ∧ OnlyCpu s t
    let wrap : Result := .fault (.wrapAccess16 0xFFFF s.cpu.pc)
    encode .ret = [0xC9] ∧ encode .reti = [0xD9] ∧
    (s.cpu.sp ≠ 0xFFFF →
      (∃ t, exec .ret s = .next t ∧ JumpsTo s t word 16 ∧ popped t) ∧
      (∃ t, exec .reti s = .next t ∧ t.cpu.pc = word ∧ t.reported = 16 ∧ t.cpu.ime = .enabled ∧ t.cpu.halted = s.cpu.halted ∧
        popped t)) ∧
    (s.cpu.sp = 0xFFFF → exec .ret s = wrap ∧ exec .reti s = wrap) ∧
    (∀ k : Cond, encode (Instr.retCc k) = [opByte (0xC0 + 8 * k.code)] ∧
      (¬k.test s.cpu.flags.z s.cpu.flags.c → ∃ t, exec (Instr.retCc k) s = .next t ∧
        Passes s t 1 8 ∧ KeepsRegs s t [] ∧ t.cpu.f = s.cpu.f ∧ t.cpu.sp = s.cpu.sp ∧ OnlyCpu s t) ∧
      (k.test s.cpu.flags.z s.cpu.flags.c → s.cpu.sp ≠ 0xFFFF →
        ∃ t, exec (Instr.retCc k) s = .next t ∧ JumpsTo s t word 20 ∧ popped t) ∧
      (k.test s.cpu.flags.z s.cpu.flags.c → s.cpu.sp = 0xFFFF → exec (Instr.retCc k) s = wrap))

/-! ## System (45_system.md) -/

/-- R440, R441, R443, R444: NOP, HALT, DI and EI, with IME and the halted mark after each. -/
def Obligations.NopHaltDiEi : Prop :=
  ∀ s : State,
    let result (t : State) (ime : Ime) (halted : Bool) : Prop :=
      t.cpu.pc = s.cpu.pc + 1 ∧ t.reported = 4 ∧ t.cpu.ime = ime ∧ t.cpu.halted = halted ∧ KeepsRegs s t [] ∧ t.cpu.f = s.cpu.f ∧
      t.cpu.sp = s.cpu.sp ∧ OnlyCpu s t
    (encode .nop = [0x00] ∧ ∃ t, exec .nop s = .next t ∧ result t s.cpu.ime s.cpu.halted) ∧
    (encode .halt = [0x76] ∧ ∃ t, exec .halt s = .next t ∧ result t s.cpu.ime true) ∧
    (encode .di = [0xF3] ∧ ∃ t, exec .di s = .next t ∧ result t .disabled s.cpu.halted) ∧
    (encode .ei = [0xFB] ∧ ∃ t, exec .ei s = .next t ∧
      result t (match s.cpu.ime with | .disabled => .pending | .pending => .pending | .enabled => .enabled) s.cpu.halted)

/-- R442 and R446: STOP and the eleven illegal opcodes stop the machine with the faults the rules name, on every state, and they
are the bytes of R194. -/
def Obligations.StopAndIllegalOpcodes : Prop :=
  ∀ s : State,
    (∀ n : Byte, encode (.stop n) = [0x10, n] ∧ exec (.stop n) s = .fault (.unmodelledStop s.cpu.pc)) ∧
    (∀ p ∈ [(Instr.illegalD3, (0xD3 : Byte)), (.illegalDB, 0xDB), (.illegalDD, 0xDD), (.illegalE3, 0xE3), (.illegalE4, 0xE4),
        (.illegalEB, 0xEB), (.illegalEC, 0xEC), (.illegalED, 0xED), (.illegalF4, 0xF4), (.illegalFC, 0xFC), (.illegalFD, 0xFD)],
      encode p.1 = [p.2] ∧ exec p.1 s = .fault (.illegalOpcode p.2 s.cpu.pc))

/-! ## Steps, interrupts and faults (60_exceptions.md) -/

/-- A step at an instruction boundary runs the decoded instruction (R190, R520), lets IME go from Pending to Enabled when it was
Pending before and still is (R506), and then runs the devices in the order of R130. -/
def Obligations.StepRunsDecodedInstruction : Prop :=
  ∀ (s : State) (i : Instr) (rest : List Byte), AtBoundary s → Undisturbed s →
    decode [busRead s s.cpu.pc, busRead s (s.cpu.pc + 1), busRead s (s.cpu.pc + 2)] = .ok (i, rest) →
    (s.cpu.pc = 0xFFFE → rest ≠ []) →
    (∀ t, exec i s = .next t →
      step s = .next (joypadMcycle (serialMcycle (timerMcycle (apuMcycle (ppuDot (ppuDot (ppuDot (ppuDot
        (if s.cpu.ime = .pending ∧ t.cpu.ime = .pending then { t with cpu := { t.cpu with ime := .enabled } } else t)))))))))) ∧
    (∀ f, exec i s = .fault f → step s = .fault f)

/-- R106 and R190: a three-byte instruction whose operand starts at 0xFFFF faults in its fetch. -/
def Obligations.OperandAcrossTheTopFaults : Prop :=
  ∀ (s : State) (i : Instr), AtBoundary s → Undisturbed s → s.cpu.pc = 0xFFFE →
    decode [busRead s 0xFFFE, busRead s 0xFFFF, busRead s 0x0000] = .ok (i, []) →
    step s = .fault (.wrapAccess16 0xFFFF 0xFFFE)

/-- R503: the dispatch of the lowest serviceable interrupt: IF[n] clears, IME becomes Disabled, the pc is pushed, the pc takes
0x0040 + 8n, 20 cycles; with SP = 0x0001 the fault of R106. -/
def Obligations.InterruptDispatch : Prop :=
  ∀ (s : State) (n : Nat), AtBoundary s → s.cpu.ime = .enabled → n < 5 →
    bit (s.ie &&& s.ifReg) n = true → (∀ m, m < n → bit (s.ie &&& s.ifReg) m = false) →
    (s.cpu.sp ≠ 0x0001 → ∃ t, cpuMcycle s = .next t ∧ step s = .next (devices t) ∧
      t.cpu.pc = BitVec.ofNat 16 (0x0040 + 8 * n) ∧ t.cpu.sp = s.cpu.sp - 2 ∧ t.cpu.ime = .disabled ∧ t.reported = 20 ∧
      t.cpu.halted = false ∧ KeepsRegs s t [] ∧ t.cpu.f = s.cpu.f ∧
      ∃ u : State, { u with ifReg := s.ifReg } = s ∧ (∀ k, k < 8 → bit u.ifReg k = (bit s.ifReg k && decide (k ≠ n))) ∧
        { t with cpu := s.cpu } = busWrite (busWrite u (s.cpu.sp - 2) (loByte s.cpu.pc)) (s.cpu.sp - 2 + 1) (hiByte s.cpu.pc)) ∧
    (s.cpu.sp = 0x0001 → step s = .fault (.wrapAccess16 0xFFFF s.cpu.pc))

/-- R505 and R520: while a slot runs the CPU only counts it down; a halted CPU idles until the wake condition holds, and then the same
step goes on as if it had not been halted. The devices run in all of these steps. -/
def Obligations.BusyAndHaltedSteps : Prop :=
  ∀ s : State, s.fault = none →
    (∀ n, s.cpu.busy = n + 1 → step s = .next (devices { s with cpu := { s.cpu with busy := n } })) ∧
    (s.cpu.busy = 0 → s.cpu.halted = true →
      let condition := (if s.params.haltWakeNeedsIe then s.ie &&& s.ifReg &&& 0x1F else s.ifReg &&& 0x1F) ≠ 0
      (¬condition → step s = .next (devices s)) ∧
      (condition → step s = step { s with cpu := { s.cpu with halted := false } }))

/-- R506: of all instructions only EI, DI and RETI change IME; an instruction executed with IME Pending leaves it Enabled, unless it is
DI; and with IME not Enabled nothing is dispatched, so exactly one instruction runs after EI before an interrupt can be taken. -/
def Obligations.EnableLatency : Prop :=
  (∀ (i : Instr) (s t : State), exec i s = .next t → t.cpu.ime ≠ s.cpu.ime → i = .ei ∨ i = .di ∨ i = .reti) ∧
  (∀ (s t : State) (i : Instr), s.cpu.ime = .pending → fetch s = .ok i → runInstruction s = .next t →
    t.cpu.ime = if i = .di then .disabled else .enabled) ∧
  (∀ s : State, s.cpu.ime ≠ .enabled → handleInterrupt s = none)

/-- R510, R540: a marked machine takes no further step, and a step that succeeds leaves no mark. That a step of a marked state answers
its fault again, and `markFault` as the state that carries the mark, are the model's choice (DESIGN CHOICE, log entry 7); that no step
is refused is of the model alone, whose refusals no rule names (log entry 7). -/
def Obligations.FaultsEndTheRun : Prop :=
  ∀ s : State,
    (∀ f, s.fault = some f → step s = .fault f) ∧
    (∀ f, step (markFault f s) = .fault f) ∧
    (∀ r, step s ≠ .refused r) ∧
    (∀ t, step s = .next t → s.fault = none ∧ t.fault = none)

/-! ## Memory (20_memory.md) -/

/-- R102, the router: every read and every write goes to the one owner that the chain of the rule gives; and for the I/O owner what
each address of 0xFF00 to 0xFF7F reads (R40 to R61, R71, R117, R640) and what a CPU write to it stores (R109, R117), but for the writes
to DIV, TIMA, TMA and TAC (`TimerRegisterWrites`), LCDC (`FrameTiming`), NR52 (`ApuPower`) and the NRx4 triggers. -/
def Obligations.BusRouter : Prop :=
  ∀ (s : State) (a : Word) (v : Byte),
    let n := a.toNat
    (n < 0xFF00 ∨ 0xFF80 ≤ n → busRead s a =
      (if n < 0x8000 then romRead s.cart s.mapper n
      else if n < 0xA000 then
        (if s.params.lockoutReadFF = true ∧ s.ppu.lcdOn = true ∧ s.ppu.mode = .transfer then 0xFF else s.vram.read (n - 0x8000))
      else if n < 0xC000 then cartRamRead s.cart s.mapper n
      else if n < 0xE000 then s.wram.read (n - 0xC000)
      else if n < 0xFE00 then s.wram.read (n - 0xE000)
      else if n < 0xFEA0 then
        (if s.params.lockoutReadFF = true ∧ s.ppu.lcdOn = true ∧ s.ppu.mode = .oamScan then 0xFF else s.oam.read (n - 0xFE00))
      else if n < 0xFF00 then
        (if s.ppu.lcdOn = true ∧ (s.ppu.mode = .oamScan ∨ s.ppu.mode = .transfer) then 0xFF else 0x00)
      else if n < 0xFFFF then s.hram.read (n - 0xFF80)
      else s.ie)) ∧
    busWrite s a v =
      (if n < 0x8000 then { s with mapper := mapperRegWrite s.cart s.mapper n v }
      else if n < 0xA000 then
        (if s.ppu.lcdOn = true ∧ s.ppu.mode = .transfer then s else { s with vram := s.vram.write (n - 0x8000) v })
      else if n < 0xC000 then cartRamWrite s n v
      else if n < 0xE000 then { s with wram := s.wram.write (n - 0xC000) v }
      else if n < 0xFE00 then { s with wram := s.wram.write (n - 0xE000) v }
      else if n < 0xFEA0 then
        (if s.ppu.lcdOn = true ∧ s.ppu.mode = .oamScan then s else { s with oam := s.oam.write (n - 0xFE00) v })
      else if n < 0xFF00 then s
      else if n < 0xFF80 then ioWrite s (ioRegAt (n - 0xFF00)) v
      else if n < 0xFFFF then { s with hram := s.hram.write (n - 0xFF80) v }
      else { s with ie := v }) ∧
    -- reads that are a stored byte under a read-OR mask: (address, stored, mask)
    (∀ p ∈ [((0xFF01 : Word), s.serial.sb, (0x00 : Byte)), (0xFF02, s.serial.sc, 0x7E), (0xFF05, s.timer.tima, 0x00),
        (0xFF06, s.timer.tma, 0x00), (0xFF07, s.timer.tac, 0xF8), (0xFF0F, s.ifReg, 0xE0), (0xFF10, s.apu.nr10, 0x80),
        (0xFF11, s.apu.nr11, 0x3F), (0xFF12, s.apu.nr12, 0x00), (0xFF13, s.apu.nr13, 0xFF), (0xFF14, s.apu.nr14, 0xBF),
        (0xFF16, s.apu.nr21, 0x3F), (0xFF17, s.apu.nr22, 0x00), (0xFF18, s.apu.nr23, 0xFF), (0xFF19, s.apu.nr24, 0xBF),
        (0xFF1A, s.apu.nr30, 0x7F), (0xFF1B, s.apu.nr31, 0xFF), (0xFF1C, s.apu.nr32, 0x9F), (0xFF1D, s.apu.nr33, 0xFF),
        (0xFF1E, s.apu.nr34, 0xBF), (0xFF20, s.apu.nr41, 0xFF), (0xFF21, s.apu.nr42, 0x00), (0xFF22, s.apu.nr43, 0x00),
        (0xFF23, s.apu.nr44, 0xBF), (0xFF24, s.apu.nr50, 0x00), (0xFF25, s.apu.nr51, 0x00)], a = p.1 → busRead s a = p.2.1 ||| p.2.2) ∧
    (∀ p ∈ [((0xFF40 : Word), s.ppu.lcdc), (0xFF42, s.ppu.scy), (0xFF43, s.ppu.scx), (0xFF45, s.ppu.lyc), (0xFF46, s.dma.reg),
        (0xFF47, s.ppu.bgp), (0xFF48, s.ppu.obp0), (0xFF49, s.ppu.obp1), (0xFF4A, s.ppu.wy), (0xFF4B, s.ppu.wx)],
      a = p.1 → busRead s a = p.2) ∧
    -- P1, DIV, NR52, STAT and LY
    (a = 0xFF00 → ∀ k, k < 8 → bit (busRead s a) k =
      if 6 ≤ k then true else if 4 ≤ k then bit s.joypad.p1 k
      else
        let held := s.joypad.buttons
        !((!bit s.joypad.p1 5 && [held.btnA, held.btnB, held.select, held.start].getD k false)
          || (!bit s.joypad.p1 4 && [held.right, held.left, held.up, held.down].getD k false))) ∧
    (a = 0xFF04 → (busRead s a).toNat = s.timer.divider.toNat / 256) ∧
    (a = 0xFF26 → ∀ k, k < 8 →
      bit (busRead s a) k = [s.apu.ch1.on, s.apu.ch2.on, s.apu.ch3.on, s.apu.ch4.on, true, true, true, s.apu.power].getD k false) ∧
    (a = 0xFF41 → bit (busRead s a) 7 = true ∧ (∀ k, 3 ≤ k → k < 7 → bit (busRead s a) k = bit s.ppu.stat k) ∧
      bit (busRead s a) 2 = s.ppu.coincidence ∧
      (busRead s a).toNat % 4 =
        if s.ppu.lcdOn = true then
          (match s.ppu.mode with
            | .hblank => 0
            | .vblank => 1
            | .oamScan => 2
            | .transfer => 3)
        else 0) ∧
    (a = 0xFF44 → busRead s a = if s.ppu.lcdOn = true then BitVec.ofNat 8 s.ppu.ly else 0) ∧
    -- wave RAM, and the addresses that no register has
    (0xFF30 ≤ n → n < 0xFF40 → busRead s a = s.apu.wave.read (n - 0xFF30) ∧
      busWrite s a v = { s with apu := { s.apu with wave := s.apu.wave.write (n - 0xFF30) v } }) ∧
    (n = 0xFF03 ∨ 0xFF08 ≤ n ∧ n < 0xFF0F ∨ n = 0xFF15 ∨ n = 0xFF1F ∨ 0xFF27 ≤ n ∧ n < 0xFF30 ∨ 0xFF4C ≤ n ∧ n < 0xFF80 →
      busRead s a = 0xFF ∧ busWrite s a v = s) ∧
    -- writes: (address, the state after)
    (∀ p ∈ [((0xFF00 : Word), { s with joypad := { s.joypad with p1 := v &&& 0x30 } }),
        (0xFF01, { s with serial := { s.serial with sb := v } }), (0xFF0F, { s with ifReg := v &&& 0x1F }),
        (0xFF41, { s with ppu := { s.ppu with stat := v &&& 0x78 } }), (0xFF42, { s with ppu := { s.ppu with scy := v } }),
        (0xFF43, { s with ppu := { s.ppu with scx := v } }), (0xFF44, s), (0xFF45, { s with ppu := { s.ppu with lyc := v } }),
        (0xFF46, { s with dma := { reg := v, active := true, src := pairOf v 0, index := 0, phase := 0 } }),
        (0xFF47, { s with ppu := { s.ppu with bgp := v } }), (0xFF48, { s with ppu := { s.ppu with obp0 := v } }),
        (0xFF49, { s with ppu := { s.ppu with obp1 := v } }), (0xFF4A, { s with ppu := { s.ppu with wy := v } }),
        (0xFF4B, { s with ppu := { s.ppu with wx := v } })], a = p.1 → busWrite s a v = p.2) ∧
    (a = 0xFF02 → busWrite s a v =
      if bit v 7 = true ∧ bit v 0 = true then
        { s with
          serial := { s.serial with sc := 0x81, bits := 8, clock := 0 }
          out := { s.out with serialOut := s.serial.sb :: s.out.serialOut } }
      else { s with serial := { s.serial with sc := v &&& 0x81, bits := 0 } }) ∧
    -- writes to audio registers with the power on: stores, length loads, and a DAC that a store turns off
    (s.apu.power = true →
      let len := 64 - v.toNat % 64
      let dac := decide (v &&& 0xF8 ≠ 0)
      ∀ p ∈ [((0xFF10 : Word), { s.apu with nr10 := v }), (0xFF13, { s.apu with nr13 := v }), (0xFF18, { s.apu with nr23 := v }),
        (0xFF1C, { s.apu with nr32 := v }), (0xFF1D, { s.apu with nr33 := v }), (0xFF22, { s.apu with nr43 := v }),
        (0xFF24, { s.apu with nr50 := v }), (0xFF25, { s.apu with nr51 := v }),
        (0xFF11, { s.apu with nr11 := v, ch1 := { s.apu.ch1 with len := len } }),
        (0xFF16, { s.apu with nr21 := v, ch2 := { s.apu.ch2 with len := len } }),
        (0xFF1B, { s.apu with nr31 := v, ch3 := { s.apu.ch3 with len := 256 - v.toNat } }),
        (0xFF20, { s.apu with nr41 := v, ch4 := { s.apu.ch4 with len := len } }),
        (0xFF12, { s.apu with nr12 := v, ch1 := { s.apu.ch1 with on := s.apu.ch1.on && dac } }),
        (0xFF17, { s.apu with nr22 := v, ch2 := { s.apu.ch2 with on := s.apu.ch2.on && dac } }),
        (0xFF1A, { s.apu with nr30 := v, ch3 := { s.apu.ch3 with on := s.apu.ch3.on && bit v 7 } }),
        (0xFF21, { s.apu with nr42 := v, ch4 := { s.apu.ch4 with on := s.apu.ch4.on && dac } })],
      a = p.1 → busWrite s a v = { s with apu := p.2 })

/-- R114: a work-RAM byte from 0xC000 to 0xDDFF and its echo are one byte, written and read at either address; one from 0xDE00 to
0xDFFF has no echo: storing to it changes no other address. -/
def Obligations.EchoIsWorkRam : Prop :=
  ∀ (s : State) (c : Word) (v : Byte), 0xC000 ≤ c.toNat → c.toNat < 0xE000 →
    (c.toNat < 0xDE00 →
      busRead s (c + 0x2000) = busRead s c ∧ busWrite s (c + 0x2000) v = busWrite s c v ∧
      busRead (busWrite s c v) (c + 0x2000) = v ∧ busRead (busWrite s (c + 0x2000) v) c = v) ∧
    (0xDE00 ≤ c.toNat → busRead (busWrite s c v) c = v ∧ ∀ b, b ≠ c → busRead (busWrite s c v) b = busRead s b)

/-- R131: a byte stored in work RAM, high RAM, unlocked video RAM or OAM, enabled cartridge RAM or IE reads back, and (but for the
echo) no other address changes. -/
def Obligations.StoredByteReadsBack : Prop :=
  ∀ (s : State) (a : Word) (v : Byte), PlainAddress a →
    (0x8000 ≤ a.toNat → a.toNat < 0xA000 → s.ppu.lcdOn = true → s.ppu.mode ≠ .transfer) →
    (0xFE00 ≤ a.toNat → a.toNat < 0xFEA0 → s.ppu.lcdOn = true → s.ppu.mode ≠ .oamScan) →
    (0xA000 ≤ a.toNat → a.toNat < 0xC000 → ramPresent s.cart s.mapper = true) →
    ¬(0xFEA0 ≤ a.toNat ∧ a.toNat < 0xFF00) →
    busRead (busWrite s a v) a = v ∧ ∀ b, b ≠ a → ¬EchoTwin a b → busRead (busWrite s a v) b = busRead s b

/-- R151 to R155: what a store below 0x8000 does to each mapper register, and which ROM byte each address reads; without a mapper a
store does nothing and each address reads its own byte. -/
def Obligations.MapperBanking : Prop :=
  ∀ (s : State) (a : Word) (v : Byte), a.toNat < 0x8000 →
    (s.cart.kind = .noMapper → busWrite s a v = s ∧ busRead s a = s.cart.rom.read a.toNat) ∧
    (s.cart.kind = .bank →
      (a.toNat < 0x2000 → busWrite s a v = { s with mapper := { s.mapper with ramEnable := decide (v.toNat % 16 = 10) } }) ∧
      (0x2000 ≤ a.toNat → a.toNat < 0x4000 →
        busWrite s a v = { s with mapper := { s.mapper with romBankReg := BitVec.ofNat 5 (v.toNat % 32) } }) ∧
      (0x4000 ≤ a.toNat → a.toNat < 0x6000 →
        busWrite s a v = { s with mapper := { s.mapper with ramBankReg := BitVec.ofNat 2 (v.toNat % 4) } }) ∧
      (0x6000 ≤ a.toNat → busWrite s a v = s) ∧
      (a.toNat < 0x4000 → busRead s a = s.cart.rom.read a.toNat) ∧
      (0x4000 ≤ a.toNat → busRead s a = s.cart.rom.read
        ((if s.mapper.romBankReg.toNat = 0 then 1 else s.mapper.romBankReg.toNat) % s.cart.romBanks * 0x4000 + (a.toNat - 0x4000))))

/-- R151 and R156: cartridge RAM answers only when there is some and it is enabled, at the selected bank; a battery cartridge shows
each store to the host. -/
def Obligations.CartridgeRam : Prop :=
  ∀ (s : State) (a : Word) (v : Byte), 0xA000 ≤ a.toNat → a.toNat < 0xC000 →
    let off := s.mapper.ramBankReg.toNat % s.cart.ramBanks * 0x2000 + (a.toNat - 0xA000)
    let answers := s.cart.kind = .bank ∧ s.mapper.ramEnable = true ∧ 0 < s.cart.ramBanks
    (answers → busRead s a = s.mapper.ram.read off ∧ (busWrite s a v).mapper.ram.read off = v ∧
      (∀ k, k ≠ off → (busWrite s a v).mapper.ram.read k = s.mapper.ram.read k) ∧
      (busWrite s a v).out.persist = (if s.cart.battery = true then (off, v) :: s.out.persist else s.out.persist)) ∧
    (¬answers → busRead s a = 0xFF ∧ busWrite s a v = s)

/-- R120 to R122: a transfer from page p still runs after 639 dots; after 640 the engine is idle and OAM holds the page's first 160
bytes, read past the PPU lockouts. Nothing but OAM and the engine changed. The CPU makes no access in between. -/
def Obligations.OamDmaCopiesThePage : Prop :=
  ∀ (s : State) (p : Byte),
    let start := busWrite s 0xFF46 p
    let t := Nat.iterate dmaTick 640 start
    (∀ n, n < 640 → (Nat.iterate dmaTick n start).dma.active = true) ∧ t.dma.active = false ∧
    busRead t 0xFF46 = p ∧ { t with oam := s.oam, dma := s.dma } = s ∧
    ∀ i, i < 160 → t.oam.read i = busReadDma start (BitVec.ofNat 16 (p.toNat * 256 + i))

/-- R110, R8, R156: no step changes the ROM, the mapper's parameters or the run parameters, and what the host has seen is never
taken back. -/
def Obligations.StepKeepsCartridgeAndHistory : Prop :=
  ∀ s t : State, step s = .next t →
    t.cart = s.cart ∧ t.params = s.params ∧ (∃ p, t.out.persist = p ++ s.out.persist) ∧
    (∃ b, t.out.serialOut = b ++ s.out.serialOut) ∧ (∃ x, t.out.samples = x ++ s.out.samples)

/-! ## Devices (60_exceptions.md, 61_ppu.md, 62_apu.md) -/

/-- R522 and R523: the timer's M-cycle. An overflow of the M-cycle before reloads TIMA and requests interrupt 2; then the divider
gains 4, and a falling edge of the selected bit counts, a wrap of TIMA leaving 0x00 and deferring the rest. -/
def Obligations.TimerMcycle : Prop :=
  ∀ s : State,
    let t := timerMcycle s
    let place := [9, 3, 5, 7].getD (s.timer.tac.toNat % 4) 0
    let on (d : Nat) : Prop := s.timer.tac.toNat / 4 % 2 = 1 ∧ d / 2 ^ place % 2 = 1
    let old := s.timer.divider.toNat
    let new := (old + 4) % 65536
    let start := if s.timer.overflowPending = true then s.timer.tma else s.timer.tima
    t.timer.divider.toNat = new ∧ t.timer.tma = s.timer.tma ∧ t.timer.tac = s.timer.tac ∧
    (on old ∧ ¬on new → t.timer.tima = start + 1 ∧ t.timer.overflowPending = decide (start = 0xFF)) ∧
    (¬(on old ∧ ¬on new) → t.timer.tima = start ∧ t.timer.overflowPending = false) ∧
    (∀ k, k < 8 → bit t.ifReg k = (bit s.ifReg k || (s.timer.overflowPending && decide (k = 2)))) ∧
    { t with timer := s.timer, ifReg := s.ifReg } = s

/-- R44, R47, R524, R525: CPU writes to DIV, TIMA, TMA and TAC, with the falling edge that DIV and TAC can make. -/
def Obligations.TimerRegisterWrites : Prop :=
  ∀ (s : State) (v : Byte),
    let place (tac : Byte) := [9, 3, 5, 7].getD (tac.toNat % 4) 0
    let on (tac : Byte) (d : Nat) : Prop := tac.toNat / 4 % 2 = 1 ∧ d / 2 ^ place tac % 2 = 1
    let counted (t : Timer) : Prop :=
      t.tima = s.timer.tima + 1 ∧ t.overflowPending = (s.timer.overflowPending || decide (s.timer.tima = 0xFF))
    let still (t : Timer) : Prop := t.tima = s.timer.tima ∧ t.overflowPending = s.timer.overflowPending
    (let t := (busWrite s 0xFF04 v).timer
     t.divider = 0 ∧ t.tma = s.timer.tma ∧ t.tac = s.timer.tac ∧
      (on s.timer.tac s.timer.divider.toNat → counted t) ∧ (¬on s.timer.tac s.timer.divider.toNat → still t)) ∧
    (busWrite s 0xFF05 v).timer = { s.timer with tima := v, overflowPending := false } ∧
    (busWrite s 0xFF06 v).timer = { s.timer with tma := v } ∧
    (let t := (busWrite s 0xFF07 v).timer
     let fell := on s.timer.tac s.timer.divider.toNat ∧ ¬on (BitVec.ofNat 8 (v.toNat % 8)) s.timer.divider.toNat
     t.tac = BitVec.ofNat 8 (v.toNat % 8) ∧ t.divider = s.timer.divider ∧ t.tma = s.timer.tma ∧ (fell → counted t) ∧
      (¬fell → still t))

/-- R530 and R531: after 0x81 is written to SC the host has seen SB, no request is made for 1023 M-cycles, and after 1024 SB is 0xFF,
SC bit 7 is clear and IF[3] is set. -/
def Obligations.SerialTransfer : Prop :=
  ∀ s : State,
    let start := busWrite s 0xFF02 0x81
    start.out.serialOut = s.serial.sb :: s.out.serialOut ∧
    (∀ n, n < 1024 → (Nat.iterate serialMcycle n start).ifReg = s.ifReg ∧ bit (Nat.iterate serialMcycle n start).serial.sc 7 = true) ∧
    (let t := Nat.iterate serialMcycle 1024 start
     t.serial.sb = 0xFF ∧ t.serial.sc = 0x01 ∧ t.ifReg = s.ifReg ||| 0x08 ∧ t.serial.bits = 0)

/-- R532 and R41: the joypad's M-cycle takes the host's buttons and requests interrupt 4 exactly when a line of P1 goes from 1 to 0,
unless JOYPAD_IRQ is Never. That the buttons come from a list, one entry each M-cycle, and stay as they are when it is empty, is the
model's choice (DESIGN CHOICE, log entry 6). -/
def Obligations.JoypadRequests : Prop :=
  ∀ s : State,
    let b := s.buttonsIn.headD s.joypad.buttons
    let t := joypadMcycle s
    let low (n : Nat) : Bool :=
      (!bit s.joypad.p1 5 && [b.btnA, b.btnB, b.select, b.start].getD n false)
        || (!bit s.joypad.p1 4 && [b.right, b.left, b.up, b.down].getD n false)
    t.joypad.buttons = b ∧ t.joypad.p1 = s.joypad.p1 ∧ t.buttonsIn = s.buttonsIn.tail ∧
    (∀ n, n < 4 → t.joypad.p1Prev.getLsbD n = !low n) ∧
    (∀ k, k < 8 → bit t.ifReg k = (bit s.ifReg k || (decide (k = 4) && decide (s.params.joypadIrq = .edge) &&
      [0, 1, 2, 3].any (fun n => s.joypad.p1Prev.getLsbD n && low n))))

/-- R600, R601, R609: with the LCD on every dot moves the position by one of the 154 lines of 456 dots; V-blank is requested and the
frame published at line 144, dot 0, and at no other dot. R640: a write that clears LCDC bit 7 turns the LCD off at line 0, dot 0, mode
0 with the STAT line low; while it is off a dot does the DMA engine's part alone; a write that sets the bit restarts at line 0, dot 0,
and the next dot enters mode 2; any other write to LCDC only stores. -/
def Obligations.FrameTiming : Prop :=
  (∀ s : State, s.ppu.lcdOn = true → s.ppu.ly < 154 → s.ppu.dot < 456 →
    let t := ppuDot s
    t.ppu.dot < 456 ∧ t.ppu.ly * 456 + t.ppu.dot = (s.ppu.ly * 456 + s.ppu.dot + 1) % 70224 ∧
    (bit t.ifReg 0 = (bit s.ifReg 0 || decide (s.ppu.ly = 144 ∧ s.ppu.dot = 0))) ∧
    t.ppu.fbPub = (if s.ppu.ly = 144 ∧ s.ppu.dot = 0 then some s.ppu.fbWork else s.ppu.fbPub)) ∧
  (∀ s : State, s.ppu.lcdOn = false → ppuDot s = dmaTick s ∧ { ppuDot s with oam := s.oam, dma := s.dma } = s ∧
    busRead s 0xFF44 = 0x00 ∧ (busRead s 0xFF41).toNat % 4 = 0) ∧
  (∀ (s : State) (v : Byte),
    let t := busWrite s 0xFF40 v
    { t with ppu := s.ppu } = s ∧ busRead t 0xFF40 = v ∧
    (bit s.ppu.lcdc 7 = true → bit v 7 = false →
      t.ppu = { s.ppu with lcdc := v, ly := 0, dot := 0, mode := .hblank, statLine := false } ∧ t.ppu.lcdOn = false) ∧
    (bit s.ppu.lcdc 7 = false → bit v 7 = true →
      t.ppu = { s.ppu with lcdc := v, ly := 0, dot := 0, wyLatch := false, winLine := 0 } ∧ t.ppu.lcdOn = true ∧
      (ppuDot t).ppu.mode = .oamScan ∧ (ppuDot t).ppu.ly = 0 ∧ (ppuDot t).ppu.dot = 1) ∧
    (bit s.ppu.lcdc 7 = bit v 7 → t.ppu = { s.ppu with lcdc := v }))

/-- R606, R607, R610: after a dot the coincidence bit is LY = LYC of that dot, and the LCD-STAT interrupt is requested exactly on a
rising edge of the combined STAT line. -/
def Obligations.StatInterrupt : Prop :=
  ∀ s : State, s.ppu.lcdOn = true →
    let t := ppuDot s
    let line := (bit s.ppu.stat 6 && t.ppu.coincidence) || (bit s.ppu.stat 5 && decide (t.ppu.mode = .oamScan))
      || (bit s.ppu.stat 4 && decide (t.ppu.mode = .vblank)) || (bit s.ppu.stat 3 && decide (t.ppu.mode = .hblank))
    t.ppu.coincidence = decide (s.ppu.ly = s.ppu.lyc.toNat) ∧ t.ppu.statLine = line ∧
    bit t.ifReg 1 = (bit s.ifReg 1 || (line && !s.ppu.statLine))

/-- R603: the OAM scan finds the first ten entries on the line: each is on it, they rise, and one on the line that is not found comes
after ten that are. -/
def Obligations.OamScanFindsTheFirstTen : Prop :=
  ∀ (lcdc : Byte) (oam : Memory) (ly : Nat),
    let found := oamScan lcdc oam ly
    let covers (i : Nat) : Prop :=
      (oam.read (4 * i)).toNat ≤ ly + 16 ∧ ly + 16 < (oam.read (4 * i)).toNat + (if bit lcdc 2 then 16 else 8)
    found.length ≤ 10 ∧ found.Pairwise (· < ·) ∧ (∀ i ∈ found, i < 40 ∧ covers i) ∧
    (∀ i, i < 40 → covers i → i ∉ found → found.length = 10 ∧ ∀ j ∈ found, j < i)

/-- R701 and R58: turning the power off clears NR10 to NR51, every channel and the frame sequencer's step; until it is on again a
write to any of them does nothing; wave RAM, the lengths and the LFSR keep their values. -/
def Obligations.ApuPower : Prop :=
  ∀ (s : State) (v : Byte), s.apu.power = true → bit v 7 = false →
    let t := busWrite s 0xFF26 v
    let a := t.apu
    busRead t 0xFF26 = 0x70 ∧ { t with apu := s.apu } = s ∧
    (∀ r : ApuReg, r ≠ .nr52 → ∀ w, a.write r w = a) ∧
    (∀ x ∈ [a.nr10, a.nr11, a.nr12, a.nr13, a.nr14, a.nr21, a.nr22, a.nr23, a.nr24, a.nr30, a.nr31, a.nr32, a.nr33, a.nr34,
      a.nr41, a.nr42, a.nr43, a.nr44, a.nr50, a.nr51], x = 0) ∧
    a.ch1.on = false ∧ a.ch2.on = false ∧ a.ch3.on = false ∧ a.ch4.on = false ∧ a.fsStep = 0 ∧
    a.wave = s.apu.wave ∧ a.ch1.len = s.apu.ch1.len ∧ a.ch2.len = s.apu.ch2.len ∧ a.ch3.len = s.apu.ch3.len ∧
    a.ch4.len = s.apu.ch4.len ∧ a.ch4.lfsr = s.apu.ch4.lfsr

/-- R711 and R752: a length clock counts each enabled nonzero length down and turns a channel off exactly when its enabled length
goes from 1 to 0; a trigger with the DAC off leaves the channel off; a channel that is off puts out 0. -/
def Obligations.ApuChannelOff : Prop :=
  ∀ a : Apu,
    let t := a.lengthClock
    let clocked (nrx4 : Byte) (on on' : Bool) (len len' : Nat) : Prop :=
      on' = (on && !(bit nrx4 6 && decide (len = 1))) ∧ len' = if bit nrx4 6 then len - 1 else len
    clocked a.nr14 a.ch1.on t.ch1.on a.ch1.len t.ch1.len ∧ clocked a.nr24 a.ch2.on t.ch2.on a.ch2.len t.ch2.len ∧
    clocked a.nr34 a.ch3.on t.ch3.on a.ch3.len t.ch3.len ∧ clocked a.nr44 a.ch4.on t.ch4.on a.ch4.len t.ch4.len ∧
    (∀ v, bit v 7 = true →
      (a.nr12 &&& 0xF8 = 0 → (a.regWrite .nr14 v).ch1.on = false) ∧ (a.nr22 &&& 0xF8 = 0 → (a.regWrite .nr24 v).ch2.on = false) ∧
      (bit a.nr30 7 = false → (a.regWrite .nr34 v).ch3.on = false) ∧ (a.nr42 &&& 0xF8 = 0 → (a.regWrite .nr44 v).ch4.on = false)) ∧
    (a.ch1.on = false → pulseOut a.nr11 a.ch1 = 0) ∧ (a.ch2.on = false → pulseOut a.nr21 a.ch2 = 0) ∧
    (a.ch3.on = false → waveOut a.nr32 a.ch3 = 0) ∧ (a.ch4.on = false → noiseOut a.ch4 = 0)

/-! ## The machine as a whole -/

/-- The invariant of `State.Inv` holds right after reset. -/
def Obligations.ResetMeetsTheInvariant : Prop := State.reset.Inv

/-- Every step keeps the invariant: memory in canonical form and inside its sizes, F's low nibble 0, reserved bits, the PPU's mode at
its dot, the devices' ranges (R32, R41, R43, R47, R48, R51, R62 to R67, R600, R752). -/
def Obligations.StepKeepsTheInvariant : Prop := ∀ s t : State, s.Inv → step s = .next t → t.Inv

/-- R800: a launch reads the type (R150), the ROM size (R159) and the RAM size (R160) from the header, loads the image cut to its declared
size (R162) and the save file (R161), and starts at 0x0100 with the CPU registers of R38, the I/O registers of R58 and R60 as they read,
and the mapper registers of R68; a load that the rules refuse never starts, and every other does. Bytes that an image or a save file does
not list read 0x00 (DESIGN CHOICE, log entry 16). -/
def Obligations.LaunchFromHeader : Prop :=
  ∀ (p : Params) (img : Image) (save : Option Image),
    let type := img.bytes.read 0x0147
    let romSize := (img.bytes.read 0x0148).toNat
    let ramSize := img.bytes.read 0x0149
    let good := type ∈ [(0x00 : Byte), 0x01, 0x02, 0x03] ∧ romSize ≤ 8 ∧ ramSize ∈ [(0x00 : Byte), 0x02, 0x03, 0x04, 0x05] ∧
      2 * 2 ^ romSize * 0x4000 ≤ img.size
    (¬good → ∃ r, launch p img save = .error (.loadError r)) ∧
    (good → ∃ s, launch p img save = .ok s ∧
      s.cart.kind = (if type = 0x00 then .noMapper else .bank) ∧ (s.cart.battery = true ↔ type = 0x03) ∧
      s.cart.romBanks = 2 * 2 ^ romSize ∧
      (ramSize, s.cart.ramBanks) ∈ [((0x00 : Byte), 0), (0x02, 1), (0x03, 4), (0x04, 16), (0x05, 8)] ∧
      (∀ k, s.cart.rom.read k = if k < s.cart.romBanks * 0x4000 then img.bytes.read k else 0x00) ∧
      (∀ k, s.mapper.ram.read k =
        match save with
        | some f => if type = 0x03 ∧ k < f.size ∧ k < s.cart.ramBanks * 0x2000 then f.bytes.read k else 0x00
        | none => 0x00) ∧
      (s.cart.battery = false ∨ save = none → s.mapper.ram = []) ∧
      s.mapper.romBankReg = 1 ∧ s.mapper.ramBankReg = 0 ∧ s.mapper.ramEnable = false ∧
      s.cpu.pc = 0x0100 ∧ s.cpu.sp = 0xFFFE ∧ s.cpu.a = 0x01 ∧ s.cpu.f = (if img.bytes.read 0x014D = 0 then 0x80 else 0xB0) ∧
      s.cpu.b = 0x00 ∧ s.cpu.c = 0x13 ∧ s.cpu.d = 0x00 ∧ s.cpu.e = 0xD8 ∧ s.cpu.h = 0x01 ∧ s.cpu.l = 0x4D ∧
      s.cpu.ime = .disabled ∧ s.cpu.halted = false ∧ s.cpu.busy = 0 ∧ s.fault = none ∧ s.ie = 0x00 ∧ s.params = p ∧
      (∀ q ∈ [((0xFF00 : Word), (0xCF : Byte)), (0xFF01, 0x00), (0xFF02, 0x7E), (0xFF04, 0xAB), (0xFF05, 0x00), (0xFF06, 0x00),
          (0xFF07, 0xF8), (0xFF0F, 0xE0), (0xFF10, 0x80), (0xFF11, 0xBF), (0xFF12, 0xF3), (0xFF13, 0xFF), (0xFF14, 0xBF),
          (0xFF16, 0x3F), (0xFF17, 0x00), (0xFF18, 0xFF), (0xFF19, 0xBF), (0xFF1A, 0x7F), (0xFF1B, 0xFF), (0xFF1C, 0x9F),
          (0xFF1D, 0xFF), (0xFF1E, 0xBF), (0xFF20, 0xFF), (0xFF21, 0x00), (0xFF22, 0x00), (0xFF23, 0xBF), (0xFF24, 0x77),
          (0xFF25, 0xF3), (0xFF26, 0xF1), (0xFF40, 0x91), (0xFF42, 0x00), (0xFF43, 0x00), (0xFF45, 0x00), (0xFF46, 0xFF),
          (0xFF47, 0xFC), (0xFF4A, 0x00), (0xFF4B, 0x00), (0xFFFF, 0x00)], busRead s q.1 = q.2))
end

