-- ==== Sys2Proof/Laws/Devices.lean ====
section
/-! SUPPORT. What the timer, the serial port, the joypad and the DMA engine keep, and what their steps leave alone. -/

namespace Sys2Proof.Machine

/-! ## Masked bytes -/

theorem and_and_zero (v : Byte) {m k : Byte} (h : m &&& k = 0) : v &&& m &&& k = 0 := by
  rw [BitVec.and_assoc, h]; exact BitVec.and_zero

theorem or_and_zero {v m k : Byte} (hv : v &&& k = 0) (hm : m &&& k = 0) : (v ||| m) &&& k = 0 := by
  rw [BitVec.and_comm, BitVec.and_or_distrib_left, BitVec.and_comm k v, hv, BitVec.and_comm k m, hm]; exact BitVec.or_zero

theorem and_mask_zero {v k : Byte} (m : Byte) (hv : v &&& k = 0) : v &&& m &&& k = 0 := by
  rw [BitVec.and_assoc, BitVec.and_comm m, ← BitVec.and_assoc, hv]; exact BitVec.zero_and

/-- A byte with bits 7 and 0 set, masked to them (R530). -/
theorem started_mask : ∀ v : Byte, (bit v 7 && bit v 0) = true → v &&& 0x81 = 0x81 := by decide

/-! ## Timer -/

@[simp] theorem Timer.inc_tac (t : Timer) : t.inc.tac = t.tac := by unfold Timer.inc; split <;> rfl

@[simp] theorem Timer.inc_divider (t : Timer) : t.inc.divider = t.divider := by unfold Timer.inc; split <;> rfl

@[simp] theorem Timer.divWrite_tac (t : Timer) : t.divWrite.tac = t.tac := by unfold Timer.divWrite; split <;> simp

@[simp] theorem Timer.advance_tac (t : Timer) : t.advance.tac = t.tac := by unfold Timer.advance; dsimp only; split <;> simp

@[simp] theorem Timer.reload_tac (t : Timer) : t.reload.tac = t.tac := rfl

@[simp] theorem Timer.tacWrite_tac (t : Timer) (v : Byte) : (t.tacWrite v).tac = v &&& 0x07 := by
  unfold Timer.tacWrite; dsimp only; split <;> simp

theorem Timer.divWrite_inv {t : Timer} (h : t.Inv) : t.divWrite.Inv := ⟨by simpa using h.tac_bits⟩

theorem Timer.timaWrite_inv {t : Timer} (h : t.Inv) (v : Byte) : (t.timaWrite v).Inv := ⟨h.tac_bits⟩

theorem Timer.tmaWrite_inv {t : Timer} (h : t.Inv) (v : Byte) : (t.tmaWrite v).Inv := ⟨h.tac_bits⟩

theorem Timer.tacWrite_inv (t : Timer) (v : Byte) : (t.tacWrite v).Inv :=
  ⟨by rw [Timer.tacWrite_tac]; exact and_and_zero v (by decide)⟩

theorem Timer.advance_inv {t : Timer} (h : t.Inv) : t.advance.Inv := ⟨by simpa using h.tac_bits⟩

/-- All that the timer's M-cycle can do: the timer moves, and IF may gain bit 2. -/
theorem timerMcycle_eq (s : State) :
    timerMcycle s = { s with timer := (timerMcycle s).timer, ifReg := (timerMcycle s).ifReg } := by
  unfold timerMcycle; split <;> rfl

theorem timerMcycle_ifReg (s : State) :
    (timerMcycle s).ifReg = if s.timer.overflowPending then s.ifReg ||| 0x04 else s.ifReg := by
  unfold timerMcycle; split <;> rfl

theorem timerMcycle_timer (s : State) :
    (timerMcycle s).timer = if s.timer.overflowPending then s.timer.reload.advance else s.timer.advance := by
  unfold timerMcycle; split <;> rfl

theorem timerMcycle_inv {s : State} (h : s.Inv) : (timerMcycle s).Inv := by
  rw [timerMcycle_eq]
  refine { h with if_bits := ?_, timer := ?_ }
  · show (timerMcycle s).ifReg &&& 0xE0 = 0
    rw [timerMcycle_ifReg]
    split
    · exact or_and_zero h.if_bits (by decide)
    · exact h.if_bits
  · show (timerMcycle s).timer.Inv
    rw [timerMcycle_timer]
    split
    · exact Timer.advance_inv ⟨h.timer.tac_bits⟩
    · exact Timer.advance_inv h.timer

/-! ## Serial port -/

/-- All that a write to SC can do: the port restarts, and the host may see a byte. -/
theorem scWrite_eq (s : State) (v : Byte) :
    scWrite s v = { s with serial := (scWrite s v).serial, out := (scWrite s v).out } := by
  unfold scWrite; split <;> rfl

theorem scWrite_serial_inv {s : State} (h : s.serial.Inv) (v : Byte) : (scWrite s v).serial.Inv := by
  unfold scWrite
  split
  · rename_i hv
    exact ⟨and_and_zero v (by decide), Nat.le_refl 8, Nat.zero_lt_succ _, rfl, fun _ => started_mask v hv⟩
  · exact ⟨and_and_zero v (by decide), Nat.zero_le 8, h.clock_lt, h.clock_dots, fun hb => absurd hb (by simp)⟩

/-- All that the serial M-cycle can do: the port moves, and IF may gain bit 3. -/
theorem serialMcycle_eq (s : State) :
    serialMcycle s = { s with serial := (serialMcycle s).serial, ifReg := (serialMcycle s).ifReg } := by
  unfold serialMcycle
  split
  · rfl
  · split
    · split <;> rfl
    · rfl

theorem serialMcycle_ifReg (s : State) : (serialMcycle s).ifReg = s.ifReg ∨ (serialMcycle s).ifReg = s.ifReg ||| 0x08 := by
  unfold serialMcycle
  split
  · exact .inl rfl
  · split
    · split
      · exact .inr rfl
      · exact .inl rfl
    · exact .inl rfl

theorem serialMcycle_serial_inv {s : State} (h : s.serial.Inv) : (serialMcycle s).serial.Inv := by
  have hc := h.clock_lt
  have hd := h.clock_dots
  have hb := h.bits_le
  unfold serialMcycle
  split
  · exact h
  · rename_i h0
    split
    · split
      · rename_i h1
        refine ⟨and_mask_zero 0x7F h.sc_bits, ?_, Nat.zero_lt_succ _, rfl, fun hp => ?_⟩
        · show s.serial.bits - 1 ≤ 8
          omega
        · exact absurd hp (by simp [Serial.shift, h1])
      · refine ⟨h.sc_bits, ?_, Nat.zero_lt_succ _, rfl, fun _ => h.busy (by omega)⟩
        show s.serial.bits - 1 ≤ 8
        omega
    · rename_i hk
      unfold Config.serialBitTicks at hk
      refine ⟨h.sc_bits, hb, ?_, ?_, h.busy⟩
      · show s.serial.clock + 4 < 512
        omega
      · show (s.serial.clock + 4) % 4 = 0
        omega

theorem serialMcycle_inv {s : State} (h : s.Inv) : (serialMcycle s).Inv := by
  rw [serialMcycle_eq]
  refine { h with if_bits := ?_, serial := serialMcycle_serial_inv h.serial }
  show (serialMcycle s).ifReg &&& 0xE0 = 0
  rcases serialMcycle_ifReg s with e | e <;> rw [e]
  · exact h.if_bits
  · exact or_and_zero h.if_bits (by decide)

/-! ## Joypad -/

theorem Joypad.write_inv (j : Joypad) (v : Byte) : (j.write v).Inv := ⟨and_and_zero v (by decide)⟩

theorem joypadSample_inv {s : State} (h : s.Inv) (b : Buttons) : (joypadSample s b).Inv := by
  unfold joypadSample
  refine { h with if_bits := ?_, joypad := ⟨h.joypad.p1_bits⟩ }
  dsimp only
  split
  · exact or_and_zero h.if_bits (by decide)
  · exact h.if_bits

theorem State.Inv.withButtons {s : State} (h : s.Inv) (l : List Buttons) : ({ s with buttonsIn := l } : State).Inv :=
  { h with }

theorem joypadMcycle_inv {s : State} (h : s.Inv) : (joypadMcycle s).Inv := by
  unfold joypadMcycle
  split
  · exact joypadSample_inv h _
  · exact joypadSample_inv (h.withButtons _) _

/-- All that the joypad's M-cycle can do. -/
theorem joypadMcycle_eq (s : State) :
    joypadMcycle s = { s with
      joypad := (joypadMcycle s).joypad, ifReg := (joypadMcycle s).ifReg, buttonsIn := (joypadMcycle s).buttonsIn } := by
  unfold joypadMcycle; split <;> rfl

/-! ## DMA -/

theorem Dma.start_inv (v : Byte) : (Dma.start v).Inv := by
  refine ⟨Nat.zero_le _, fun _ => Nat.zero_lt_succ _, Nat.zero_lt_succ _, fun _ => ?_⟩
  show v.zeroExtend 16 <<< 8 = pairOf v 0
  revert v
  decide

end Sys2Proof.Machine
end

