-- ==== Sys2Proof/Laws/Memory.lean ====
section
/-! SUPPORT. Byte arrays: read after write, and the canonical form that every operation keeps. -/

namespace Sys2Proof.Machine

@[simp] theorem Memory.read_nil (a : Nat) : Memory.read [] a = Memory.unlisted := rfl

theorem Memory.read_remove_same (m : Memory) (a : Nat) : (m.remove a).read a = Memory.unlisted := by
  induction m with
  | nil => rfl
  | cons c m ih =>
    by_cases h : a = c.1
    · simpa only [Memory.remove, if_pos h] using ih
    · simpa only [Memory.remove, Memory.read, if_neg h] using ih

theorem Memory.read_remove_ne (m : Memory) {a b : Nat} (h : b ≠ a) : (m.remove a).read b = m.read b := by
  induction m with
  | nil => rfl
  | cons c m ih =>
    by_cases hc : a = c.1
    · simp [Memory.remove, Memory.read, ← hc, h, ih]
    · simp [Memory.remove, Memory.read, hc, ih]

theorem Memory.read_insert_same (m : Memory) (a : Nat) (x : Byte) (h : ∀ c ∈ m, c.1 ≠ a) : (m.insert a x).read a = x := by
  induction m with
  | nil => simp [Memory.insert, Memory.read]
  | cons c m ih =>
    have hc : a ≠ c.1 := fun e => h c (by simp) e.symm
    have ih' := ih (fun d hd => h d (by simp [hd]))
    by_cases hl : a < c.1 <;> simp [Memory.insert, Memory.read, hl, hc, ih']

theorem Memory.read_insert_ne (m : Memory) {a b : Nat} (x : Byte) (h : b ≠ a) : (m.insert a x).read b = m.read b := by
  induction m with
  | nil => simp [Memory.insert, Memory.read, h]
  | cons c m ih => by_cases hl : a < c.1 <;> simp [Memory.insert, Memory.read, hl, h, ih]

theorem Memory.mem_remove {m : Memory} {a : Nat} {c : Host.Cell} : c ∈ m.remove a ↔ c ∈ m ∧ c.1 ≠ a := by
  induction m with
  | nil => simp [Memory.remove]
  | cons d m ih =>
    by_cases h : a = d.1
    · simp only [Memory.remove, if_pos h, ih, List.mem_cons]
      constructor
      · rintro ⟨h1, h2⟩; exact ⟨.inr h1, h2⟩
      · rintro ⟨rfl | h1, h2⟩
        · exact absurd h.symm h2
        · exact ⟨h1, h2⟩
    · simp only [Memory.remove, if_neg h, ih, List.mem_cons]
      constructor
      · rintro (rfl | ⟨h1, h2⟩)
        · exact ⟨.inl rfl, fun e => h e.symm⟩
        · exact ⟨.inr h1, h2⟩
      · rintro ⟨rfl | h1, h2⟩
        · exact .inl rfl
        · exact .inr ⟨h1, h2⟩

theorem Memory.mem_insert {m : Memory} {a : Nat} {x : Byte} {c : Host.Cell} : c ∈ m.insert a x ↔ c = (a, x) ∨ c ∈ m := by
  induction m with
  | nil => simp [Memory.insert]
  | cons d m ih =>
    by_cases h : a < d.1
    · simp [Memory.insert, h]
    · simp only [Memory.insert, if_neg h, List.mem_cons, ih]
      constructor
      · rintro (h | h | h) <;> simp [h]
      · rintro (h | h | h) <;> simp [h]

/-- Reading what was just written (20_memory.md R131). -/
@[simp] theorem Memory.read_write_same (m : Memory) (a : Nat) (x : Byte) : (m.write a x).read a = x := by
  unfold Memory.write
  split
  · rename_i h; rw [Memory.read_remove_same, h]
  · exact Memory.read_insert_same _ _ _ (fun c hc => (Memory.mem_remove.mp hc).2)

/-- A write leaves every other offset alone. -/
theorem Memory.read_write_ne (m : Memory) {a b : Nat} (x : Byte) (h : b ≠ a) : (m.write a x).read b = m.read b := by
  unfold Memory.write
  split
  · exact Memory.read_remove_ne m h
  · rw [Memory.read_insert_ne _ _ h, Memory.read_remove_ne m h]

theorem Memory.read_write (m : Memory) (a b : Nat) (x : Byte) : (m.write a x).read b = if b = a then x else m.read b := by
  by_cases h : b = a
  · subst h; simp
  · simp [h, Memory.read_write_ne]

/-! ## The canonical form -/

theorem Memory.wf_nil : Memory.wf [] := by simp [Memory.wf]

theorem Memory.remove_wf {m : Memory} (h : m.wf) (a : Nat) : (m.remove a).wf := by
  refine ⟨?_, fun c hc => h.2 c (Memory.mem_remove.mp hc).1⟩
  have hp := h.1
  clear h
  induction m with
  | nil => exact hp
  | cons d m ih =>
    rw [List.pairwise_cons] at hp
    by_cases hd : a = d.1
    · simpa [Memory.remove, hd] using ih hp.2
    · simp only [Memory.remove, if_neg hd, List.pairwise_cons]
      exact ⟨fun c hc => hp.1 c (Memory.mem_remove.mp hc).1, ih hp.2⟩

theorem Memory.insert_pairwise {m : Memory} (h : m.Pairwise (fun c d => c.1 < d.1)) {a : Nat} (x : Byte)
    (hne : ∀ c ∈ m, c.1 ≠ a) : (m.insert a x).Pairwise (fun c d => c.1 < d.1) := by
  induction m with
  | nil => simp [Memory.insert]
  | cons d m ih =>
    rw [List.pairwise_cons] at h
    have hd : d.1 ≠ a := hne d (by simp)
    by_cases hl : a < d.1
    · simp only [Memory.insert, if_pos hl, List.pairwise_cons, List.mem_cons]
      refine ⟨?_, h⟩
      rintro c (rfl | hc)
      · exact hl
      · exact Nat.lt_trans hl (h.1 c hc)
    · simp only [Memory.insert, if_neg hl, List.pairwise_cons]
      refine ⟨fun c hc => ?_, ih h.2 (fun c hc => hne c (by simp [hc]))⟩
      rcases Memory.mem_insert.mp hc with rfl | hc
      · show d.1 < a
        omega
      · exact h.1 c hc

/-- Every write keeps the canonical form. -/
theorem Memory.write_wf {m : Memory} (h : m.wf) (a : Nat) (x : Byte) : (m.write a x).wf := by
  have hr := Memory.remove_wf h a
  unfold Memory.write
  split
  · exact hr
  · rename_i hx
    refine ⟨Memory.insert_pairwise hr.1 x (fun c hc => (Memory.mem_remove.mp hc).2), fun c hc => ?_⟩
    rcases Memory.mem_insert.mp hc with rfl | hc
    · exact hx
    · exact hr.2 c hc

/-- A write below a size leaves every entry below it. -/
theorem Memory.write_within {m : Memory} {n : Nat} (h : m.within n) {a : Nat} (ha : a < n) (x : Byte) : (m.write a x).within n := by
  intro c hc
  unfold Memory.write at hc
  split at hc
  · exact h c (Memory.mem_remove.mp hc).1
  · rcases Memory.mem_insert.mp hc with rfl | hc
    · exact ha
    · exact h c (Memory.mem_remove.mp hc).1

theorem Memory.ofCells_wf (cells : List Host.Cell) : (Memory.ofCells cells).wf := by
  unfold Memory.ofCells
  suffices h : ∀ m : Memory, m.wf → (cells.foldl (fun m c => m.write c.1 c.2) m).wf from h [] Memory.wf_nil
  induction cells with
  | nil => exact fun m h => h
  | cons c cells ih => exact fun m h => ih _ (Memory.write_wf h _ _)

theorem Memory.below_wf {m : Memory} (h : m.wf) (n : Nat) : (m.below n).wf :=
  ⟨h.1.filter _, fun c hc => h.2 c (List.mem_filter.mp hc).1⟩

theorem Memory.below_within (m : Memory) (n : Nat) : (m.below n).within n := by
  intro c hc
  simpa using (List.mem_filter.mp hc).2

/-- Canonical arrays that read alike are the same list. -/
theorem Memory.eq_of_read {m k : Memory} (hm : m.wf) (hk : k.wf) (h : ∀ a, m.read a = k.read a) : m = k := by
  have read_low : ∀ (l : Memory) (a : Nat), (∀ c ∈ l, a < c.1) → l.read a = Memory.unlisted := by
    intro l a hl
    induction l with
    | nil => rfl
    | cons c l ih =>
      have := hl c (by simp)
      simp only [Memory.read, if_neg (Nat.ne_of_lt this)]
      exact ih (fun d hd => hl d (by simp [hd]))
  induction m generalizing k with
  | nil =>
    cases k with
    | nil => rfl
    | cons d k => exact absurd (by simpa [Memory.read] using (h d.1).symm) (hk.2 d (by simp))
  | cons c m ih =>
    obtain ⟨hm1, hm2⟩ := List.pairwise_cons.mp hm.1
    cases k with
    | nil => exact absurd (by simpa [Memory.read] using h c.1) (hm.2 c (by simp))
    | cons d k =>
      obtain ⟨hk1, hk2⟩ := List.pairwise_cons.mp hk.1
      have hcm : Memory.read (c :: m) c.1 = c.2 := by simp [Memory.read]
      have hdk : Memory.read (d :: k) d.1 = d.2 := by simp [Memory.read]
      have hkey : c.1 = d.1 := by
        rcases Nat.lt_trichotomy c.1 d.1 with hlt | he | hlt
        · have := read_low (d :: k) c.1 (by
            intro e he
            rcases List.mem_cons.mp he with rfl | he
            · exact hlt
            · exact Nat.lt_trans hlt (hk1 e he))
          exact absurd (by rw [← hcm, h, this]) (hm.2 c (by simp))
        · exact he
        · have := read_low (c :: m) d.1 (by
            intro e he
            rcases List.mem_cons.mp he with rfl | he
            · exact hlt
            · exact Nat.lt_trans hlt (hm1 e he))
          exact absurd (by rw [← hdk, ← h, this]) (hk.2 d (by simp))
      have hval : c.2 = d.2 := by rw [← hcm, ← hdk, h, hkey]
      have hcd : c = d := Prod.ext hkey hval
      subst hcd
      congr 1
      refine ih ⟨hm2, fun e he => hm.2 e (by simp [he])⟩ ⟨hk2, fun e he => hk.2 e (by simp [he])⟩ (fun a => ?_)
      by_cases ha : a = c.1
      · rw [ha, read_low m c.1 hm1, read_low k c.1 hk1]
      · simpa [Memory.read, ha] using h a

/-- An array cut to a size reads as before below it and as unlisted from it on (R161, R162). -/
theorem Memory.read_below (m : Memory) (n a : Nat) : (m.below n).read a = if a < n then m.read a else Memory.unlisted := by
  induction m with
  | nil => simp [Memory.below, Memory.read]
  | cons c m ih =>
    obtain ⟨k, v⟩ := c
    unfold Memory.below at ih ⊢
    by_cases hk : k < n
    · rw [List.filter_cons_of_pos (by simpa using hk)]
      by_cases h : a = k
      · subst h; simp [Memory.read, hk]
      · simp only [Memory.read, h, if_false, ih]
    · rw [List.filter_cons_of_neg (by simpa using hk), ih]
      by_cases h : a = k
      · subst h; simp [hk]
      · simp only [Memory.read, h, if_false]

end Sys2Proof.Machine
end

