-- ==== Sys2Proof/Laws/Apu.lean ====
section
/-! SUPPORT. What the audio unit keeps (62_apu.md R752). -/

namespace Sys2Proof.Machine

theorem field_lt (v : Byte) (hi lo : Nat) : field v hi lo < 2 ^ (hi + 1 - lo) := Nat.mod_lt _ (by positivity)

theorem period_lt (hi lo : Byte) : period hi lo < 2048 := by
  have h1 : field hi 2 0 < 8 := field_lt hi 2 0
  have h2 := lo.isLt
  unfold period
  omega

theorem sweepReload_le (v : Byte) : sweepReload v ≤ 8 := by
  have h : field v 6 4 < 8 := field_lt v 6 4
  unfold sweepReload
  split <;> omega

theorem length64_le (v : Byte) : length64 v ≤ 64 := Nat.sub_le 64 _

/-! ## The generators -/

theorem pulseTick_inv (k p : Nat) {c : Pulse} (h : c.Inv) : (pulseTick k p c).Inv := by
  unfold pulseTick
  split
  · exact ⟨h.len_le, h.vol_le, h.env_le, Nat.mod_lt _ (by decide)⟩
  · exact ⟨h.len_le, h.vol_le, h.env_le, h.duty_lt⟩

theorem pulseTick_on (k p : Nat) (c : Pulse) : (pulseTick k p c).on = c.on := by unfold pulseTick; split <;> rfl

theorem waveTick_inv (k p : Nat) (m : Memory) {c : Wave} (h : c.Inv) : (waveTick k p m c).Inv := by
  unfold waveTick
  split
  · exact ⟨h.len_le, Nat.mod_lt _ (by decide)⟩
  · exact ⟨h.len_le, h.pos_lt⟩

theorem waveTick_on (k p : Nat) (m : Memory) (c : Wave) : (waveTick k p m c).on = c.on := by unfold waveTick; split <;> rfl

theorem noiseTick_inv (k : Nat) (v : Byte) {c : Noise} (h : c.Inv) : (noiseTick k v c).Inv := by
  unfold noiseTick; split <;> exact ⟨h.len_le, h.vol_le, h.env_le⟩

theorem noiseTick_on (k : Nat) (v : Byte) (c : Noise) : (noiseTick k v c).on = c.on := by unfold noiseTick; split <;> rfl

theorem Apu.tick_inv {a : Apu} (h : a.Inv) : a.tick.Inv :=
  { h with
    ch1 := pulseTick_inv _ _ h.ch1
    ch2 := pulseTick_inv _ _ h.ch2
    ch3 := waveTick_inv _ _ _ h.ch3
    ch4 := noiseTick_inv _ _ h.ch4
    power_off := fun hp => by
      have := h.power_off hp
      simpa only [Apu.tick, pulseTick_on, waveTick_on, noiseTick_on] using this }

/-! ## The frame sequencer -/

theorem lengthStep_le (v : Byte) (on : Bool) (len : Nat) : (lengthStep v on len).2 ≤ len := by
  unfold lengthStep; split <;> dsimp only <;> omega

theorem lengthStep_off (v : Byte) (len : Nat) : (lengthStep v false len).1 = false := by unfold lengthStep; split <;> rfl

theorem Apu.lengthClock_inv {a : Apu} (h : a.Inv) : a.lengthClock.Inv :=
  { h with
    ch1 := { h.ch1 with len_le := Nat.le_trans (lengthStep_le _ _ _) h.ch1.len_le }
    ch2 := { h.ch2 with len_le := Nat.le_trans (lengthStep_le _ _ _) h.ch2.len_le }
    ch3 := { h.ch3 with len_le := Nat.le_trans (lengthStep_le _ _ _) h.ch3.len_le }
    ch4 := { h.ch4 with len_le := Nat.le_trans (lengthStep_le _ _ _) h.ch4.len_le }
    power_off := fun hp => by
      obtain ⟨h1, h2, h3, h4⟩ := h.power_off hp
      simp only [Apu.lengthClock, h1, h2, h3, h4, lengthStep_off, and_self] }

theorem envStep_le (k : Nat) (v : Byte) {timer vol : Nat} (ht : timer ≤ 7) (hv : vol ≤ 15) :
    (envStep k v timer vol).1 ≤ 7 ∧ (envStep k v timer vol).2 ≤ 15 := by
  have hf : field v 2 0 < 8 := field_lt v 2 0
  have hd : envDown k timer ≤ 7 := by unfold envDown; split <;> omega
  unfold envStep
  dsimp only
  split
  · exact ⟨ht, hv⟩
  · split
    · refine ⟨by omega, ?_⟩
      dsimp only
      split <;> split <;> omega
    · exact ⟨hd, hv⟩

theorem Apu.envelopeClock_inv {a : Apu} (h : a.Inv) : a.envelopeClock.Inv := by
  have e1 := envStep_le a.free a.nr12 h.ch1.env_le h.ch1.vol_le
  have e2 := envStep_le (a.free + 1) a.nr22 h.ch2.env_le h.ch2.vol_le
  have e4 := envStep_le (a.free + 2) a.nr42 h.ch4.env_le h.ch4.vol_le
  exact { h with
    ch1 := { h.ch1 with vol_le := e1.2, env_le := e1.1 }
    ch2 := { h.ch2 with vol_le := e2.2, env_le := e2.1 }
    ch4 := { h.ch4 with vol_le := e4.2, env_le := e4.1 } }

theorem Apu.Inv.offCh1 {a : Apu} (h : a.Inv) : ({ a with ch1 := { a.ch1 with on := false } } : Apu).Inv :=
  { h with
    ch1 := { h.ch1 with }
    power_off := fun hp => ⟨rfl, (h.power_off hp).2⟩ }

theorem Apu.sweepCheck_inv {a : Apu} (h : a.Inv) : a.sweepCheck.Inv := by
  unfold Apu.sweepCheck; split
  · exact h.offCh1
  · exact h

theorem Apu.sweepStep_inv {a : Apu} (h : a.Inv) : a.sweepStep.Inv := by
  unfold Apu.sweepStep
  dsimp only
  split
  · rename_i hf
    have hc := Apu.sweepCheck_inv h
    exact Apu.sweepCheck_inv
      { hc with sweep := { hc.sweep with shadow_lt := Nat.lt_succ_of_le hf.1 } }
  · exact Apu.sweepCheck_inv h

theorem Apu.sweepClock_inv {a : Apu} (h : a.Inv) : a.sweepClock.Inv := by
  have ht := h.sweep.timer_le
  unfold Apu.sweepClock
  dsimp only
  split
  · have h' : ({ a with sweep := { a.sweep with timer := sweepReload a.nr10 } } : Apu).Inv :=
      { h with sweep := { h.sweep with timer_le := sweepReload_le _ } }
    split
    · exact Apu.sweepStep_inv h'
    · exact h'
  · exact { h with sweep := { h.sweep with timer_le := Nat.le_trans (Nat.sub_le _ _) ht } }

theorem Apu.Inv.ite {c : Prop} [Decidable c] {a b : Apu} (ha : a.Inv) (hb : b.Inv) : (if c then a else b).Inv := by
  split
  · exact ha
  · exact hb

theorem Apu.Inv.withFsStep {a : Apu} (h : a.Inv) (n : Nat) : ({ a with fsStep := n % 8 } : Apu).Inv :=
  { h with fs_lt := Nat.mod_lt _ (by decide) }

theorem Apu.frameSeqClock_inv {a : Apu} (h : a.Inv) : a.frameSeqClock.Inv := by
  have h1 := Apu.Inv.ite (c := a.fsStep % 2 = 0) (Apu.lengthClock_inv h) h
  have h2 := Apu.Inv.ite (c := a.fsStep = 2 ∨ a.fsStep = 6) (Apu.sweepClock_inv h1) h1
  exact (Apu.Inv.ite (c := a.fsStep = 7) (Apu.envelopeClock_inv h2) h2).withFsStep _

theorem Apu.mcycle_inv {a : Apu} (h : a.Inv) (b : Bool) : (a.mcycle b).Inv := by
  have h0 : ({ a with fsDivPrev := b } : Apu).Inv := { h with }
  unfold Apu.mcycle
  dsimp only
  split
  · refine Apu.tick_inv (Apu.tick_inv (Apu.tick_inv (Apu.tick_inv ?_)))
    split
    · exact Apu.frameSeqClock_inv h0
    · exact h0
  · exact h0

/-- All that the APU's M-cycle can do: the APU moves, and the host may see samples. -/
theorem apuMcycle_eq (s : State) : apuMcycle s = { s with apu := (apuMcycle s).apu, out := (apuMcycle s).out } := rfl

theorem apuMcycle_apu_inv {s : State} (h : s.apu.Inv) : (apuMcycle s).apu.Inv := by
  have hm := Apu.mcycle_inv h (s.timer.divider.getLsbD 12)
  exact { hm with acc_lt := Nat.mod_lt _ (by decide) }

theorem apuMcycle_inv {s : State} (h : s.Inv) : (apuMcycle s).Inv := { h with apu := apuMcycle_apu_inv h.apu }

/-! ## Register writes -/

theorem triggerPulse_inv (dac : Bool) (v : Byte) (p : Nat) {c : Pulse} (h : c.Inv) : (triggerPulse dac v p c).Inv := by
  have h1 : field v 7 4 < 16 := field_lt v 7 4
  have h2 : field v 2 0 < 8 := field_lt v 2 0
  have h3 := h.len_le
  refine ⟨?_, Nat.le_of_lt_succ h1, Nat.le_of_lt_succ h2, h.duty_lt⟩
  show (if c.len = 0 then 64 else c.len) ≤ 64
  split <;> omega

theorem Apu.trigger1_inv {a : Apu} (h : a.Inv) (hp : a.power = true) : a.trigger1.Inv := by
  have h' : ({ a with
      ch1 := triggerPulse a.dac1 a.nr12 a.period1 a.ch1
      sweep :=
        { shadow := a.period1, timer := sweepReload a.nr10,
          enabled := decide (field a.nr10 6 4 ≠ 0 ∨ field a.nr10 2 0 ≠ 0) } } : Apu).Inv :=
    { h with
      ch1 := triggerPulse_inv _ _ _ h.ch1
      sweep := ⟨period_lt _ _, sweepReload_le _⟩
      power_off := fun hn => absurd (hn.symm.trans hp) (by decide) }
  unfold Apu.trigger1
  dsimp only
  split
  · exact Apu.sweepCheck_inv h'
  · exact h'

theorem Apu.trigger2_inv {a : Apu} (h : a.Inv) (hp : a.power = true) : a.trigger2.Inv :=
  { h with
    ch2 := triggerPulse_inv _ _ _ h.ch2
    power_off := fun hn => absurd (hn.symm.trans hp) (by decide) }

theorem Apu.trigger3_inv {a : Apu} (h : a.Inv) (hp : a.power = true) : a.trigger3.Inv :=
  { h with
    ch3 := by
      have := h.ch3.len_le
      refine ⟨?_, Nat.zero_lt_succ _⟩
      show (if a.ch3.len = 0 then 256 else a.ch3.len) ≤ 256
      split <;> omega
    power_off := fun hn => absurd (hn.symm.trans hp) (by decide) }

theorem Apu.trigger4_inv {a : Apu} (h : a.Inv) (hp : a.power = true) : a.trigger4.Inv :=
  { h with
    ch4 := by
      have h1 : field a.nr42 7 4 < 16 := field_lt _ 7 4
      have h2 : field a.nr42 2 0 < 8 := field_lt _ 2 0
      have := h.ch4.len_le
      refine ⟨?_, Nat.le_of_lt_succ h1, Nat.le_of_lt_succ h2⟩
      show (if a.ch4.len = 0 then 64 else a.ch4.len) ≤ 64
      split <;> omega
    power_off := fun hn => absurd (hn.symm.trans hp) (by decide) }

theorem Apu.powerOff_inv {a : Apu} (h : a.Inv) : a.powerOff.Inv :=
  { h with
    ch1 := ⟨h.ch1.len_le, Nat.zero_le _, Nat.zero_le _, Nat.zero_lt_succ _⟩
    ch2 := ⟨h.ch2.len_le, Nat.zero_le _, Nat.zero_le _, Nat.zero_lt_succ _⟩
    ch3 := ⟨h.ch3.len_le, Nat.zero_lt_succ _⟩
    ch4 := ⟨h.ch4.len_le, Nat.zero_le _, Nat.zero_le _⟩
    sweep := ⟨Nat.zero_lt_succ _, Nat.zero_le _⟩
    fs_lt := Nat.zero_lt_succ _
    power_off := fun _ => ⟨rfl, rfl, rfl, rfl⟩ }

theorem Apu.powerWrite_inv {a : Apu} (h : a.Inv) (v : Byte) : (a.powerWrite v).Inv := by
  unfold Apu.powerWrite
  split
  · exact Apu.powerOff_inv h
  · split
    · exact { h with fs_lt := Nat.zero_lt_succ _, power_off := fun hn => absurd hn (by simp) }
    · exact h

theorem Apu.regWrite_inv {a : Apu} (h : a.Inv) (r : ApuReg) (v : Byte) (hp : a.power = true ∨ r = .nr52) :
    (a.regWrite r v).Inv := by
  by_cases hr : r = .nr52
  · subst hr; exact Apu.powerWrite_inv h v
  replace hp : a.power = true := hp.resolve_right hr
  have off : ∀ b : Apu, b.power = true → b.power = false →
      b.ch1.on = false ∧ b.ch2.on = false ∧ b.ch3.on = false ∧ b.ch4.on = false :=
    fun b h1 h2 => absurd (h2.symm.trans h1) (by decide)
  cases r
  case nr52 => exact absurd rfl hr
  case nr11 => exact { h with ch1 := { h.ch1 with len_le := length64_le v }, power_off := off _ hp }
  case nr21 => exact { h with ch2 := { h.ch2 with len_le := length64_le v }, power_off := off _ hp }
  case nr31 => exact { h with ch3 := { h.ch3 with len_le := Nat.sub_le 256 _ }, power_off := off _ hp }
  case nr41 => exact { h with ch4 := { h.ch4 with len_le := length64_le v }, power_off := off _ hp }
  case nr12 =>
    simp only [Apu.regWrite]
    split
    · exact { h with }
    · exact { h with ch1 := { h.ch1 with }, power_off := off _ hp }
  case nr22 =>
    simp only [Apu.regWrite]
    split
    · exact { h with }
    · exact { h with ch2 := { h.ch2 with }, power_off := off _ hp }
  case nr30 =>
    simp only [Apu.regWrite]
    split
    · exact { h with }
    · exact { h with ch3 := { h.ch3 with }, power_off := off _ hp }
  case nr42 =>
    simp only [Apu.regWrite]
    split
    · exact { h with }
    · exact { h with ch4 := { h.ch4 with }, power_off := off _ hp }
  case nr14 =>
    have h' : ({ a with nr14 := v } : Apu).Inv := { h with }
    simp only [Apu.regWrite]
    split
    · exact Apu.trigger1_inv h' hp
    · exact h'
  case nr24 =>
    have h' : ({ a with nr24 := v } : Apu).Inv := { h with }
    simp only [Apu.regWrite]
    split
    · exact Apu.trigger2_inv h' hp
    · exact h'
  case nr34 =>
    have h' : ({ a with nr34 := v } : Apu).Inv := { h with }
    simp only [Apu.regWrite]
    split
    · exact Apu.trigger3_inv h' hp
    · exact h'
  case nr44 =>
    have h' : ({ a with nr44 := v } : Apu).Inv := { h with }
    simp only [Apu.regWrite]
    split
    · exact Apu.trigger4_inv h' hp
    · exact h'
  all_goals exact { h with }

theorem Apu.write_inv {a : Apu} (h : a.Inv) (r : ApuReg) (v : Byte) : (a.write r v).Inv := by
  unfold Apu.write
  split
  · rename_i hp; exact Apu.regWrite_inv h r v hp
  · exact h

end Sys2Proof.Machine
end

