-- ==== Sys2Proof/Laws/Ppu.lean ====
section
/-! SUPPORT. What the DMA engine and the video controller keep in a dot (20_memory.md R121, 61_ppu.md R600). -/

namespace Sys2Proof.Machine

/-! ## The DMA tick -/

theorem dmaTick_inv {s : State} (h : s.Inv) : (dmaTick s).Inv := by
  unfold dmaTick
  split
  · rename_i ha
    have hi := h.dma.active_lt ha
    split
    · refine { h with
        oam_wf := Memory.write_wf h.oam_wf _ _
        oam_within := Memory.write_within h.oam_within hi _
        dma := ⟨?_, fun hn => ?_, Nat.zero_lt_succ _, fun _ => h.dma.src_page ha⟩ }
      · exact hi
      · have hne : s.dma.index + 1 ≠ 160 := of_decide_eq_true hn
        show s.dma.index + 1 < 160
        omega
    · rename_i hp
      have := h.dma.phase_lt
      exact { h with dma := ⟨h.dma.index_le, h.dma.active_lt, show s.dma.phase + 1 < 4 by omega, h.dma.src_page⟩ }
  · exact h

/-- All that the DMA tick can do: the engine moves, and OAM may take a byte. -/
theorem dmaTick_eq (s : State) : dmaTick s = { s with oam := (dmaTick s).oam, dma := (dmaTick s).dma } := by
  unfold dmaTick
  split
  · split <;> rfl
  · rfl

/-! ## Scan, length and line -/

theorem oamScan_length (lcdc : Byte) (oam : Memory) (ly : Nat) : (oamScan lcdc oam ly).length ≤ 10 := by
  unfold oamScan
  rw [List.length_take]
  exact Nat.min_le_left _ _

theorem oamScan_lt (lcdc : Byte) (oam : Memory) (ly : Nat) : ∀ i ∈ oamScan lcdc oam ly, i < 40 := by
  intro i hi
  exact List.mem_range.mp (List.mem_filter.mp (List.mem_of_mem_take hi)).1

theorem mode3Len_bounds (p : OpenParam) (k : Nat) (s : Snapshot) (w : Bool) : 172 ≤ mode3Len p k s w ∧ mode3Len p k s w ≤ 289 := by
  cases p
  · unfold mode3Len
    dsimp only
    omega
  · unfold mode3Len
    dsimp only
    omega

theorem renderLine_length (s : Snapshot) (w : Bool) (n ly : Nat) : (renderLine s w n ly).length = 160 := by
  unfold renderLine
  simp

theorem Frame.full_set {f : Frame} (h : f.full) (i : Nat) {row : List Pixel} (hr : row.length = 160) : Frame.full (f.set i row) := by
  refine ⟨by rw [List.length_set]; exact h.1, fun r hm => ?_⟩
  rcases List.mem_or_eq_of_mem_set hm with hm | rfl
  · exact h.2 r hm
  · exact hr

/-! ## The stages of a dot -/

/-- A stage that moves neither the position nor the LCD switch. -/
def Ppu.SamePlace (p q : Ppu) : Prop := q.ly = p.ly ∧ q.dot = p.dot ∧ q.lcdc = p.lcdc

theorem lineStart_ranges {p : Ppu} (h : p.Ranges) : (lineStart p).Ranges := by
  unfold lineStart; split
  · exact { h with }
  · exact h

theorem lineStart_place (p : Ppu) : p.SamePlace (lineStart p) := by unfold lineStart; split <;> exact ⟨rfl, rfl, rfl⟩

theorem lineStart_mode (p : Ppu) : (lineStart p).mode = if p.ly < 144 ∧ p.dot = 0 then .oamScan else p.mode := by
  unfold lineStart; split <;> rfl

theorem lineStart_len (p : Ppu) : (lineStart p).mode3Len = p.mode3Len := by unfold lineStart; split <;> rfl

theorem vblankStart_ranges {s : State} (h : s.ppu.Ranges) : (vblankStart s).ppu.Ranges := by
  unfold vblankStart; split
  · exact { h with pub_full := fun f hf => by cases hf; exact h.work_full }
  · exact h

theorem vblankStart_place (s : State) : s.ppu.SamePlace (vblankStart s).ppu := by
  unfold vblankStart; split <;> exact ⟨rfl, rfl, rfl⟩

theorem vblankStart_mode (s : State) :
    (vblankStart s).ppu.mode = if s.ppu.ly = 144 ∧ s.ppu.dot = 0 then .vblank else s.ppu.mode := by
  unfold vblankStart; split <;> rfl

theorem vblankStart_len (s : State) : (vblankStart s).ppu.mode3Len = s.ppu.mode3Len := by unfold vblankStart; split <;> rfl

theorem vblankStart_eq (s : State) : vblankStart s = { s with ppu := (vblankStart s).ppu, ifReg := (vblankStart s).ifReg } := by
  unfold vblankStart; split <;> rfl

theorem vblankStart_ifReg (s : State) :
    (vblankStart s).ifReg = if s.ppu.ly = 144 ∧ s.ppu.dot = 0 then s.ifReg ||| 0x01 else s.ifReg := by
  unfold vblankStart; split <;> rfl

theorem transferStart_ranges {s : State} (h : s.ppu.Ranges) : (transferStart s).ppu.Ranges := by
  unfold transferStart
  dsimp only
  split
  · exact { h with
      cand_le := oamScan_length _ _ _
      cand_lt := oamScan_lt _ _ _
      mode3_ge := (mode3Len_bounds _ _ _ _).1
      mode3_le := (mode3Len_bounds _ _ _ _).2
      work_full := Frame.full_set h.work_full _ (renderLine_length _ _ _ _) }
  · exact h

theorem transferStart_place (s : State) : s.ppu.SamePlace (transferStart s).ppu := by
  unfold transferStart; dsimp only; split <;> exact ⟨rfl, rfl, rfl⟩

theorem transferStart_mode (s : State) :
    (transferStart s).ppu.mode = if s.ppu.ly < 144 ∧ s.ppu.dot = 80 then .transfer else s.ppu.mode := by
  unfold transferStart; dsimp only; split <;> rfl

theorem transferStart_len (s : State) (h : ¬(s.ppu.ly < 144 ∧ s.ppu.dot = 80)) :
    (transferStart s).ppu.mode3Len = s.ppu.mode3Len := by
  unfold transferStart; dsimp only; rw [if_neg h]

theorem transferStart_eq (s : State) : transferStart s = { s with ppu := (transferStart s).ppu } := by
  unfold transferStart; dsimp only; split <;> rfl

theorem hblankStart_ranges {p : Ppu} (h : p.Ranges) : (hblankStart p).Ranges := by
  unfold hblankStart; split
  · exact { h with }
  · exact h

theorem hblankStart_place (p : Ppu) : p.SamePlace (hblankStart p) := by unfold hblankStart; split <;> exact ⟨rfl, rfl, rfl⟩

theorem hblankStart_mode (p : Ppu) :
    (hblankStart p).mode = if p.ly < 144 ∧ p.dot = 80 + p.mode3Len then .hblank else p.mode := by
  unfold hblankStart; split <;> rfl

theorem hblankStart_len (p : Ppu) : (hblankStart p).mode3Len = p.mode3Len := by unfold hblankStart; split <;> rfl

theorem dotAdvance_mode (p : Ppu) : (dotAdvance p).mode = p.mode := by
  unfold dotAdvance; split
  · split <;> rfl
  · rfl

theorem dotAdvance_len (p : Ppu) : (dotAdvance p).mode3Len = p.mode3Len := by
  unfold dotAdvance; split
  · split <;> rfl
  · rfl

theorem dotAdvance_lcdc (p : Ppu) : (dotAdvance p).lcdc = p.lcdc := by
  unfold dotAdvance; split
  · split <;> rfl
  · rfl

/-- Where a dot ends: the next dot, the next line, or the next frame (R600, R601). -/
theorem dotAdvance_place (p : Ppu) :
    ((dotAdvance p).dot = p.dot + 1 ∧ (dotAdvance p).ly = p.ly ∧ p.dot + 1 ≠ 456) ∨
    ((dotAdvance p).dot = 0 ∧ (dotAdvance p).ly = p.ly + 1 ∧ p.dot + 1 = 456 ∧ p.ly + 1 ≠ 154) ∨
    ((dotAdvance p).dot = 0 ∧ (dotAdvance p).ly = 0 ∧ p.dot + 1 = 456 ∧ p.ly + 1 = 154) := by
  unfold dotAdvance
  split
  · rename_i h1
    split
    · rename_i h2; exact .inr (.inr ⟨rfl, rfl, h1, h2⟩)
    · rename_i h2; exact .inr (.inl ⟨rfl, rfl, h1, h2⟩)
  · rename_i h1; exact .inl ⟨rfl, rfl, h1⟩

theorem dotAdvance_ranges {p : Ppu} (h : p.Ranges) : (dotAdvance p).Ranges := by
  have hl := h.ly_lt
  have hd := h.dot_lt
  unfold dotAdvance
  split
  · split
    · exact { h with ly_lt := Nat.zero_lt_succ _, dot_lt := Nat.zero_lt_succ _ }
    · exact { h with ly_lt := show p.ly + 1 < 154 by omega, dot_lt := Nat.zero_lt_succ _ }
  · exact { h with dot_lt := show p.dot + 1 < 456 by omega }

theorem statUpdate_ppu (s : State) : (statUpdate s).ppu =
    { s.ppu with
      coincidence := decide (s.ppu.ly = s.ppu.lyc.toNat)
      statLine := statLineOf { s.ppu with coincidence := decide (s.ppu.ly = s.ppu.lyc.toNat) } } := rfl

theorem statUpdate_ifReg (s : State) : (statUpdate s).ifReg = s.ifReg ∨ (statUpdate s).ifReg = s.ifReg ||| 0x02 := by
  unfold statUpdate; dsimp only; split
  · exact .inr rfl
  · exact .inl rfl

theorem statUpdate_eq (s : State) : statUpdate s = { s with ppu := (statUpdate s).ppu, ifReg := (statUpdate s).ifReg } := rfl

/-! ## A whole dot with the LCD on -/

/-- The machine when the dot's mode is settled, before the STAT line and the counters. -/
def dotModes (s : State) : State :=
  let t := transferStart (vblankStart { s with ppu := lineStart s.ppu })
  { t with ppu := hblankStart t.ppu }

theorem lcdDot_eq_stages (s : State) :
    lcdDot s = { statUpdate (dotModes s) with ppu := dotAdvance (statUpdate (dotModes s)).ppu } := rfl

theorem dotModes_eq (s : State) : dotModes s = { s with ppu := (dotModes s).ppu, ifReg := (dotModes s).ifReg } := by
  unfold dotModes
  dsimp only
  rw [transferStart_eq, vblankStart_eq]

theorem dotModes_ranges {s : State} (h : s.ppu.Ranges) : (dotModes s).ppu.Ranges :=
  hblankStart_ranges (transferStart_ranges (vblankStart_ranges (s := { s with ppu := lineStart s.ppu }) (lineStart_ranges h)))

theorem dotModes_place (s : State) : s.ppu.SamePlace (dotModes s).ppu := by
  obtain ⟨a1, a2, a3⟩ := lineStart_place s.ppu
  obtain ⟨b1, b2, b3⟩ := vblankStart_place { s with ppu := lineStart s.ppu }
  obtain ⟨c1, c2, c3⟩ := transferStart_place (vblankStart { s with ppu := lineStart s.ppu })
  obtain ⟨d1, d2, d3⟩ := hblankStart_place (transferStart (vblankStart { s with ppu := lineStart s.ppu })).ppu
  exact ⟨d1.trans (c1.trans (b1.trans a1)), d2.trans (c2.trans (b2.trans a2)), d3.trans (c3.trans (b3.trans a3))⟩

/-- The mode of the dot just settled (R600). -/
theorem dotModes_mode {s : State} (h : s.ppu.Inv) (on : s.ppu.lcdOn = true) :
    (dotModes s).ppu.mode = modeAt (dotModes s).ppu.mode3Len s.ppu.ly s.ppu.dot := by
  obtain ⟨a1, a2, _⟩ := lineStart_place s.ppu
  obtain ⟨b1, b2, _⟩ := vblankStart_place { s with ppu := lineStart s.ppu }
  obtain ⟨c1, c2, _⟩ := transferStart_place (vblankStart { s with ppu := lineStart s.ppu })
  have hr := (transferStart_ranges (vblankStart_ranges (s := { s with ppu := lineStart s.ppu }) (lineStart_ranges h.toRanges)))
  have hlen := transferStart_len (vblankStart { s with ppu := lineStart s.ppu })
  have hin := h.in_line on
  have hvb := h.in_vblank on
  have hge := hr.mode3_ge
  have h0 := h.mode3_ge
  rw [b1, b2] at hlen
  show (hblankStart (transferStart (vblankStart { s with ppu := lineStart s.ppu })).ppu).mode =
    modeAt (hblankStart (transferStart (vblankStart { s with ppu := lineStart s.ppu })).ppu).mode3Len _ _
  rw [hblankStart_mode, hblankStart_len, transferStart_mode, vblankStart_mode, lineStart_mode, c1, c2, b1, b2]
  rw [vblankStart_len] at hlen
  dsimp only at a1 a2 hlen ⊢
  rw [a1, a2] at hlen ⊢
  rw [lineStart_len] at hlen
  generalize (transferStart (vblankStart { s with ppu := lineStart s.ppu })).ppu.mode3Len = len at hge hlen
  unfold modeAt at hin ⊢
  by_cases hv : 144 ≤ s.ppu.ly
  · rw [if_neg (by omega), if_neg (by omega), if_pos hv]
    by_cases hs : s.ppu.ly = 144 ∧ s.ppu.dot = 0
    · rw [if_pos hs]
    · rw [if_neg hs, if_neg (by omega)]
      by_cases hl : 144 < s.ppu.ly
      · exact hvb hl
      · rw [hin (by omega), if_pos hv]
  · rw [if_neg hv, if_neg (by omega : ¬(s.ppu.ly = 144 ∧ s.ppu.dot = 0))]
    by_cases hd0 : s.ppu.dot = 0
    · rw [if_neg (by omega), if_neg (by omega), if_pos (by omega), if_pos (by omega)]
    · have hin := hin (by omega)
      rw [if_neg hv] at hin
      by_cases hd80 : s.ppu.dot = 80
      · rw [if_neg (by omega), if_pos (by omega), if_neg (by omega), if_pos (by omega)]
      · have hlen := hlen (by omega)
        rw [if_neg (by omega : ¬(s.ppu.ly < 144 ∧ s.ppu.dot = 80)), if_neg (by omega : ¬(s.ppu.ly < 144 ∧ s.ppu.dot = 0)), hin]
        subst hlen
        by_cases h1 : s.ppu.dot < 80
        · rw [if_neg (by omega), if_pos (by omega), if_pos h1]
        · by_cases h2 : s.ppu.dot < 80 + s.ppu.mode3Len
          · rw [if_neg (by omega), if_neg (by omega), if_pos (by omega), if_neg h1, if_pos h2]
          · by_cases h3 : s.ppu.dot = 80 + s.ppu.mode3Len
            · rw [if_pos (by omega), if_neg h1, if_neg h2]
            · rw [if_neg (by omega), if_neg (by omega), if_neg (by omega), if_neg h1, if_neg h2]

theorem statUpdate_ranges {s : State} (h : s.ppu.Ranges) : (statUpdate s).ppu.Ranges := by
  rw [statUpdate_ppu]
  exact { h with }

/-- The counters move on from a settled dot. -/
theorem dotAdvance_inv {p : Ppu} (h : p.Ranges) (on : p.lcdOn = true) (hm : p.mode = modeAt p.mode3Len p.ly p.dot) :
    (dotAdvance p).Inv := by
  have hplace := dotAdvance_place p
  refine { dotAdvance_ranges h with off := fun hoff => ?_, in_line := fun _ hpos => ?_, in_vblank := fun _ hly => ?_ }
  · unfold Ppu.lcdOn at hoff on
    rw [dotAdvance_lcdc, on] at hoff
    cases hoff
  · rw [dotAdvance_mode, dotAdvance_len, hm]
    rcases hplace with ⟨e1, e2, _⟩ | ⟨e1, _⟩ | ⟨e1, _⟩
    · rw [e1, e2]; rfl
    · omega
    · omega
  · rw [dotAdvance_mode, hm]
    unfold modeAt
    rcases hplace with ⟨_, e2, _⟩ | ⟨_, e2, _⟩ | ⟨_, e2, _⟩
    · rw [if_pos (by omega)]
    · rw [if_pos (by omega)]
    · omega

theorem lcdDot_ppu_inv {s : State} (h : s.ppu.Inv) (on : s.ppu.lcdOn = true) : (lcdDot s).ppu.Inv := by
  obtain ⟨p1, p2, p3⟩ := dotModes_place s
  have hm := dotModes_mode h on
  have hr := statUpdate_ranges (dotModes_ranges h.toRanges)
  rw [lcdDot_eq_stages]
  refine dotAdvance_inv hr ?_ ?_
  · unfold Ppu.lcdOn at on ⊢
    rw [statUpdate_ppu]
    dsimp only
    rw [p3, on]
  · rw [statUpdate_ppu]
    dsimp only
    rw [hm, p1, p2]

/-- All that a dot with the LCD on can do: the PPU moves, and IF may gain bits 0 and 1. -/
theorem lcdDot_eq (s : State) : lcdDot s = { s with ppu := (lcdDot s).ppu, ifReg := (lcdDot s).ifReg } := by
  rw [lcdDot_eq_stages, statUpdate_eq, dotModes_eq]

theorem lcdDot_if_bits {s : State} (h : s.ifReg &&& 0xE0 = 0) : (lcdDot s).ifReg &&& 0xE0 = 0 := by
  have hm : (dotModes s).ifReg &&& 0xE0 = 0 := by
    show (transferStart (vblankStart { s with ppu := lineStart s.ppu })).ifReg &&& 0xE0 = 0
    rw [transferStart_eq]
    show (vblankStart { s with ppu := lineStart s.ppu }).ifReg &&& 0xE0 = 0
    rw [vblankStart_ifReg]
    split
    · exact or_and_zero h (by decide)
    · exact h
  show (statUpdate (dotModes s)).ifReg &&& 0xE0 = 0
  rcases statUpdate_ifReg (dotModes s) with e | e <;> rw [e]
  · exact hm
  · exact or_and_zero hm (by decide)

theorem ppuDot_inv {s : State} (h : s.Inv) : (ppuDot s).Inv := by
  have hd := dmaTick_inv h
  unfold ppuDot
  dsimp only
  split
  · rename_i on
    rw [lcdDot_eq]
    exact { hd with if_bits := lcdDot_if_bits hd.if_bits, ppu := lcdDot_ppu_inv hd.ppu on }
  · exact hd

/-- All that a dot can do: OAM, the DMA engine, the PPU and IF. -/
theorem ppuDot_eq (s : State) :
    ppuDot s = { s with oam := (ppuDot s).oam, dma := (ppuDot s).dma, ppu := (ppuDot s).ppu, ifReg := (ppuDot s).ifReg } := by
  unfold ppuDot
  dsimp only
  split
  · rw [lcdDot_eq, dmaTick_eq]
  · rw [dmaTick_eq]

end Sys2Proof.Machine
end

