-- ==== Sys2Proof/Laws/Bus.lean ====
section
/-! SUPPORT. The bus: which region an address is in, what a write changes and what it leaves alone, and that it keeps the
invariant (20_memory.md). -/

namespace Sys2Proof.Machine

/-! ## Regions (R101) -/

/-- The first address of a region and the address after its last (R101). -/
def Region.bounds : Region → Nat × Nat
  | .rom0 => (0x0000, 0x4000)
  | .romX => (0x4000, 0x8000)
  | .vram => (0x8000, 0xA000)
  | .cartRam => (0xA000, 0xC000)
  | .wram0 => (0xC000, 0xD000)
  | .wram1 => (0xD000, 0xE000)
  | .echo => (0xE000, 0xFE00)
  | .oam => (0xFE00, 0xFEA0)
  | .prohibited => (0xFEA0, 0xFF00)
  | .io => (0xFF00, 0xFF80)
  | .hram => (0xFF80, 0xFFFF)
  | .ie => (0xFFFF, 0x10000)

/-- The region of an address holds it. -/
theorem regionOf_holds (a : Word) : (regionOf a).bounds.1 ≤ a.toNat ∧ a.toNat < (regionOf a).bounds.2 := by
  have hlt := a.isLt
  unfold regionOf
  dsimp only
  repeat' split
  all_goals simp only [Region.bounds]; omega

/-- No two regions share an address (R103). -/
theorem Region.disjoint {q r : Region} {n : Nat} (hq : q.bounds.1 ≤ n ∧ n < q.bounds.2) (hr : r.bounds.1 ≤ n ∧ n < r.bounds.2) :
    q = r := by
  cases q <;> cases r <;> first | rfl | (simp only [Region.bounds] at hq hr; omega)

/-- A region is its range of the map. -/
theorem regionOf_iff (a : Word) (r : Region) : regionOf a = r ↔ r.bounds.1 ≤ a.toNat ∧ a.toNat < r.bounds.2 :=
  ⟨fun h => h ▸ regionOf_holds a, Region.disjoint (regionOf_holds a)⟩

theorem regionOf_bounds {a : Word} {r : Region} (h : regionOf a = r) : r.bounds.1 ≤ a.toNat ∧ a.toNat < r.bounds.2 :=
  (regionOf_iff a r).mp h

/-! ## I/O registers -/

theorem ioRegAt_wave {o i : Nat} (h : ioRegAt o = .wave i) : i < 16 := by
  unfold ioRegAt at h
  split at h <;> try cases h
  split at h
  · cases h; omega
  · split at h <;> cases h

theorem Ppu.lcdcWrite_inv {p : Ppu} (h : p.Inv) (v : Byte) : (p.lcdcWrite v).Inv := by
  unfold Ppu.lcdcWrite
  split
  · rename_i hv
    have hoff : (bit v 7 = true) → False := fun e => by rw [hv.2] at e; cases e
    exact { h with
      ly_lt := Nat.zero_lt_succ _
      dot_lt := Nat.zero_lt_succ _
      off := fun _ => ⟨rfl, rfl, rfl⟩
      in_line := fun on _ => (hoff on).elim
      in_vblank := fun on _ => (hoff on).elim }
  · rename_i h1
    split
    · rename_i hv
      exact { h with
        ly_lt := Nat.zero_lt_succ _
        dot_lt := Nat.zero_lt_succ _
        off := fun e => by
          have e : bit v 7 = false := e
          rw [hv.2] at e; cases e
        in_line := fun _ hp => absurd hp (Nat.lt_irrefl 0)
        in_vblank := fun _ hp => absurd hp (Nat.not_lt_zero _) }
    · rename_i h2
      have hsame : bit v 7 = p.lcdOn := by
        cases hp : p.lcdOn <;> cases hb : bit v 7 <;> simp_all
      exact { h with
        off := fun e => h.off (hsame.symm.trans e)
        in_line := fun e => h.in_line (hsame.symm.trans e)
        in_vblank := fun e => h.in_vblank (hsame.symm.trans e) }

/-- What a write to an I/O register can change. -/
theorem ioWrite_eq (s : State) (r : IoReg) (v : Byte) :
    ioWrite s r v = { s with
      joypad := (ioWrite s r v).joypad, serial := (ioWrite s r v).serial, timer := (ioWrite s r v).timer,
      ifReg := (ioWrite s r v).ifReg, apu := (ioWrite s r v).apu, ppu := (ioWrite s r v).ppu, dma := (ioWrite s r v).dma,
      out := (ioWrite s r v).out } := by
  cases r <;> try rfl
  simp only [ioWrite]
  rw [scWrite_eq]

theorem ioWrite_inv {s : State} (h : s.Inv) (r : IoReg) (v : Byte) (hw : ∀ i, r = .wave i → i < 16) : (ioWrite s r v).Inv := by
  cases r
  case p1 => exact { h with joypad := Joypad.write_inv _ v }
  case sb => exact { h with serial := { h.serial with } }
  case sc =>
    show (scWrite s v).Inv
    rw [scWrite_eq]
    exact { h with serial := scWrite_serial_inv h.serial v }
  case div => exact { h with timer := Timer.divWrite_inv h.timer }
  case tima => exact { h with timer := Timer.timaWrite_inv h.timer v }
  case tma => exact { h with timer := Timer.tmaWrite_inv h.timer v }
  case tac => exact { h with timer := Timer.tacWrite_inv _ v }
  case ifr => exact { h with if_bits := and_and_zero v (by decide) }
  case apu r => exact { h with apu := Apu.write_inv h.apu r v }
  case wave i =>
    exact { h with
      apu := { h.apu with
        wave_wf := Memory.write_wf h.apu.wave_wf _ _
        wave_within := Memory.write_within h.apu.wave_within (hw i rfl) _ } }
  case lcdc => exact { h with ppu := Ppu.lcdcWrite_inv h.ppu v }
  case stat => exact { h with ppu := { h.ppu with stat_bits := and_and_zero v (by decide) } }
  case ly => exact h
  case dma => exact { h with dma := Dma.start_inv v }
  case unimplemented => exact h
  all_goals exact { h with ppu := { h.ppu with } }

/-! ## The cartridge -/

theorem mapperRegWrite_ram (c : Cartridge) (m : Mapper) (a : Nat) (v : Byte) : (mapperRegWrite c m a v).ram = m.ram := by
  unfold mapperRegWrite
  split
  · rfl
  · split
    · rfl
    · split
      · rfl
      · split <;> rfl

theorem ramOffset_lt {c : Cartridge} {m : Mapper} {a : Nat} (hp : ramPresent c m = true) (ha : a < 0xC000) (hb : 0xA000 ≤ a) :
    ramOffset c m a < c.ramBanks * 0x2000 := by
  have hk : 0 < c.ramBanks := by
    unfold ramPresent at hp
    split at hp
    · cases hp
    · exact of_decide_eq_true (Bool.and_eq_true_iff.mp hp).2
  have hm := Nat.mod_lt m.ramBankReg.toNat hk
  unfold ramOffset
  omega

theorem cartRamWrite_eq (s : State) (a : Nat) (v : Byte) :
    cartRamWrite s a v = { s with
      mapper := { s.mapper with ram := (cartRamWrite s a v).mapper.ram }, out := (cartRamWrite s a v).out } := by
  unfold cartRamWrite; split <;> rfl

/-! ## A write through the bus (R102) -/

/-- What a bus write can never change: the CPU's registers, the fault mark, the host's inputs, the cartridge, the parameters. -/
structure Untouched (s t : State) : Prop where
  cpu : t.cpu = s.cpu
  fault : t.fault = s.fault
  buttonsIn : t.buttonsIn = s.buttonsIn
  cart : t.cart = s.cart
  params : t.params = s.params

theorem Untouched.refl (s : State) : Untouched s s := ⟨rfl, rfl, rfl, rfl, rfl⟩

theorem Untouched.trans {s t u : State} (h : Untouched s t) (k : Untouched t u) : Untouched s u :=
  ⟨k.cpu.trans h.cpu, k.fault.trans h.fault, k.buttonsIn.trans h.buttonsIn, k.cart.trans h.cart, k.params.trans h.params⟩

theorem ioWrite_untouched (s : State) (r : IoReg) (v : Byte) : Untouched s (ioWrite s r v) := by
  rw [ioWrite_eq]; exact ⟨rfl, rfl, rfl, rfl, rfl⟩

theorem cartRamWrite_untouched (s : State) (n : Nat) (v : Byte) : Untouched s (cartRamWrite s n v) := by
  rw [cartRamWrite_eq]; exact ⟨rfl, rfl, rfl, rfl, rfl⟩

theorem busWrite_untouched (s : State) (a : Word) (v : Byte) : Untouched s (busWrite s a v) := by
  unfold busWrite
  dsimp only
  cases regionOf a
  case vram => dsimp only; split <;> exact ⟨rfl, rfl, rfl, rfl, rfl⟩
  case oam => dsimp only; split <;> exact ⟨rfl, rfl, rfl, rfl, rfl⟩
  case cartRam => exact cartRamWrite_untouched s _ v
  case io => exact ioWrite_untouched s _ v
  all_goals exact ⟨rfl, rfl, rfl, rfl, rfl⟩

@[simp] theorem busWrite_cpu (s : State) (a : Word) (v : Byte) : (busWrite s a v).cpu = s.cpu := (busWrite_untouched s a v).cpu

@[simp] theorem busWrite_fault (s : State) (a : Word) (v : Byte) : (busWrite s a v).fault = s.fault :=
  (busWrite_untouched s a v).fault

@[simp] theorem busWrite_buttonsIn (s : State) (a : Word) (v : Byte) : (busWrite s a v).buttonsIn = s.buttonsIn :=
  (busWrite_untouched s a v).buttonsIn

@[simp] theorem busWrite_cart (s : State) (a : Word) (v : Byte) : (busWrite s a v).cart = s.cart := (busWrite_untouched s a v).cart

@[simp] theorem busWrite_params (s : State) (a : Word) (v : Byte) : (busWrite s a v).params = s.params :=
  (busWrite_untouched s a v).params

/-- Every bus write keeps the invariant. -/
theorem busWrite_inv {s : State} (h : s.Inv) (a : Word) (v : Byte) : (busWrite s a v).Inv := by
  have hb : ∀ r, regionOf a = r → r.bounds.1 ≤ a.toNat ∧ a.toNat < r.bounds.2 := fun r hr => regionOf_bounds hr
  unfold busWrite
  dsimp only
  cases hr : regionOf a <;> dsimp only <;> have hn := hb _ hr <;> simp only [Region.bounds] at hn
  case rom0 => exact { h with ram_wf := by rw [mapperRegWrite_ram]; exact h.ram_wf, ram_within := by rw [mapperRegWrite_ram]; exact h.ram_within }
  case romX => exact { h with ram_wf := by rw [mapperRegWrite_ram]; exact h.ram_wf, ram_within := by rw [mapperRegWrite_ram]; exact h.ram_within }
  case vram =>
    split
    · exact h
    · exact { h with vram_wf := Memory.write_wf h.vram_wf _ _, vram_within := Memory.write_within h.vram_within (by omega) _ }
  case cartRam =>
    unfold cartRamWrite
    split
    · rename_i hp
      exact { h with
        ram_wf := Memory.write_wf h.ram_wf _ _
        ram_within := Memory.write_within h.ram_within (ramOffset_lt hp hn.2 hn.1) _ }
    · exact h
  case wram0 => exact { h with wram_wf := Memory.write_wf h.wram_wf _ _, wram_within := Memory.write_within h.wram_within (by omega) _ }
  case wram1 => exact { h with wram_wf := Memory.write_wf h.wram_wf _ _, wram_within := Memory.write_within h.wram_within (by omega) _ }
  case echo => exact { h with wram_wf := Memory.write_wf h.wram_wf _ _, wram_within := Memory.write_within h.wram_within (by omega) _ }
  case oam =>
    split
    · exact h
    · exact { h with oam_wf := Memory.write_wf h.oam_wf _ _, oam_within := Memory.write_within h.oam_within (by omega) _ }
  case prohibited => exact h
  case io => exact ioWrite_inv h _ v (fun i hi => ioRegAt_wave hi)
  case hram => exact { h with hram_wf := Memory.write_wf h.hram_wf _ _, hram_within := Memory.write_within h.hram_within (by omega) _ }
  case ie => exact { h with }

/-! ## Reads -/

/-- A read sees nothing of the CPU. -/
@[simp] theorem busRead_withCpu (s : State) (c : Cpu) (a : Word) : busRead { s with cpu := c } a = busRead s a := by
  unfold busRead busReadWith
  dsimp only
  cases regionOf a
  case io => dsimp only; cases ioRegAt (a.toNat - 0xFF00) <;> rfl
  all_goals rfl

/-- A write to storage leaves every read of other storage alone: the read of an address by the storage it reaches. -/
theorem busRead_wram (s : State) {a : Word} (h1 : 0xC000 ≤ a.toNat) (h2 : a.toNat < 0xE000) :
    busRead s a = s.wram.read (a.toNat - 0xC000) := by
  unfold busRead busReadWith
  by_cases h : a.toNat < 0xD000
  · rw [(regionOf_iff a .wram0).mpr ⟨h1, h⟩]
  · rw [(regionOf_iff a .wram1).mpr ⟨Nat.le_of_not_lt h, h2⟩]

theorem busWrite_wram (s : State) {a : Word} (h1 : 0xC000 ≤ a.toNat) (h2 : a.toNat < 0xE000) (v : Byte) :
    busWrite s a v = { s with wram := s.wram.write (a.toNat - 0xC000) v } := by
  unfold busWrite
  by_cases h : a.toNat < 0xD000
  · rw [(regionOf_iff a .wram0).mpr ⟨h1, h⟩]
  · rw [(regionOf_iff a .wram1).mpr ⟨Nat.le_of_not_lt h, h2⟩]

theorem busRead_echo (s : State) {a : Word} (h1 : 0xE000 ≤ a.toNat) (h2 : a.toNat < 0xFE00) :
    busRead s a = s.wram.read (a.toNat - 0x2000 - 0xC000) := by
  unfold busRead busReadWith
  rw [(regionOf_iff a .echo).mpr ⟨h1, h2⟩]

theorem busWrite_echo (s : State) {a : Word} (h1 : 0xE000 ≤ a.toNat) (h2 : a.toNat < 0xFE00) (v : Byte) :
    busWrite s a v = { s with wram := s.wram.write (a.toNat - 0x2000 - 0xC000) v } := by
  unfold busWrite
  rw [(regionOf_iff a .echo).mpr ⟨h1, h2⟩]

theorem busRead_hram (s : State) {a : Word} (h1 : 0xFF80 ≤ a.toNat) (h2 : a.toNat < 0xFFFF) :
    busRead s a = s.hram.read (a.toNat - 0xFF80) := by
  unfold busRead busReadWith
  rw [(regionOf_iff a .hram).mpr ⟨h1, h2⟩]

theorem busWrite_hram (s : State) {a : Word} (h1 : 0xFF80 ≤ a.toNat) (h2 : a.toNat < 0xFFFF) (v : Byte) :
    busWrite s a v = { s with hram := s.hram.write (a.toNat - 0xFF80) v } := by
  unfold busWrite
  rw [(regionOf_iff a .hram).mpr ⟨h1, h2⟩]

theorem busRead_io (s : State) {a : Word} (h1 : 0xFF00 ≤ a.toNat) (h2 : a.toNat < 0xFF80) :
    busRead s a = ioRead s (ioRegAt (a.toNat - 0xFF00)) := by
  unfold busRead busReadWith
  rw [(regionOf_iff a .io).mpr ⟨h1, h2⟩]

theorem busWrite_io (s : State) {a : Word} (h1 : 0xFF00 ≤ a.toNat) (h2 : a.toNat < 0xFF80) (v : Byte) :
    busWrite s a v = ioWrite s (ioRegAt (a.toNat - 0xFF00)) v := by
  unfold busWrite
  rw [(regionOf_iff a .io).mpr ⟨h1, h2⟩]

/-- A read of the I/O address of a named register. -/
theorem busRead_ioReg (s : State) {a : Word} {r : IoReg}
    (h : 0xFF00 ≤ a.toNat ∧ a.toNat < 0xFF80 ∧ ioRegAt (a.toNat - 0xFF00) = r) : busRead s a = ioRead s r := by
  rw [busRead_io s h.1 h.2.1, h.2.2]

/-- A write to the I/O address of a named register. -/
theorem busWrite_ioReg (s : State) {a : Word} {r : IoReg} (v : Byte)
    (h : 0xFF00 ≤ a.toNat ∧ a.toNat < 0xFF80 ∧ ioRegAt (a.toNat - 0xFF00) = r) : busWrite s a v = ioWrite s r v := by
  rw [busWrite_io s h.1 h.2.1, h.2.2]

theorem busRead_rom (s : State) {a : Word} (h : a.toNat < 0x8000) : busRead s a = romRead s.cart s.mapper a.toNat := by
  unfold busRead busReadWith
  by_cases k : a.toNat < 0x4000
  · rw [(regionOf_iff a .rom0).mpr ⟨Nat.zero_le _, k⟩]
  · rw [(regionOf_iff a .romX).mpr ⟨Nat.le_of_not_lt k, h⟩]

theorem busWrite_rom (s : State) {a : Word} (h : a.toNat < 0x8000) (v : Byte) :
    busWrite s a v = { s with mapper := mapperRegWrite s.cart s.mapper a.toNat v } := by
  unfold busWrite
  by_cases k : a.toNat < 0x4000
  · rw [(regionOf_iff a .rom0).mpr ⟨Nat.zero_le _, k⟩]
  · rw [(regionOf_iff a .romX).mpr ⟨Nat.le_of_not_lt k, h⟩]

/-- A 16-bit read faults at 0xFFFF only (R106). -/
theorem memRead16_ok (s : State) {a : Word} (h : a ≠ 0xFFFF) : memRead16 s a = .ok (pairOf (busRead s (a + 1)) (busRead s a)) := by
  unfold memRead16; rw [if_neg h]

theorem memRead16_fault (s : State) : memRead16 s 0xFFFF = .error (.wrapAccess16 0xFFFF s.cpu.pc) := rfl

theorem memWrite16_ok (s : State) {a : Word} (h : a ≠ 0xFFFF) (v : Word) :
    memWrite16 s a v = .ok (busWrite (busWrite s a (loByte v)) (a + 1) (hiByte v)) := by
  unfold memWrite16; rw [if_neg h]

theorem memWrite16_fault (s : State) (v : Word) : memWrite16 s 0xFFFF v = .error (.wrapAccess16 0xFFFF s.cpu.pc) := rfl

end Sys2Proof.Machine
end

