-- ==== Sys2Proof/Laws/State.lean ====
section
/-! SUPPORT. One lemma per field per update of State and of Cpu, so that no proof unfolds a record update. -/

namespace Sys2Proof.Machine

/-! ## State.retire -/

@[simp] theorem State.retire_fault (s : State) (len : Word) (n : Nat) : (s.retire len n).fault = s.fault := rfl
@[simp] theorem State.retire_ifReg (s : State) (len : Word) (n : Nat) : (s.retire len n).ifReg = s.ifReg := rfl
@[simp] theorem State.retire_ie (s : State) (len : Word) (n : Nat) : (s.retire len n).ie = s.ie := rfl
@[simp] theorem State.retire_timer (s : State) (len : Word) (n : Nat) : (s.retire len n).timer = s.timer := rfl
@[simp] theorem State.retire_serial (s : State) (len : Word) (n : Nat) : (s.retire len n).serial = s.serial := rfl
@[simp] theorem State.retire_joypad (s : State) (len : Word) (n : Nat) : (s.retire len n).joypad = s.joypad := rfl
@[simp] theorem State.retire_dma (s : State) (len : Word) (n : Nat) : (s.retire len n).dma = s.dma := rfl
@[simp] theorem State.retire_ppu (s : State) (len : Word) (n : Nat) : (s.retire len n).ppu = s.ppu := rfl
@[simp] theorem State.retire_apu (s : State) (len : Word) (n : Nat) : (s.retire len n).apu = s.apu := rfl
@[simp] theorem State.retire_mapper (s : State) (len : Word) (n : Nat) : (s.retire len n).mapper = s.mapper := rfl
@[simp] theorem State.retire_cart (s : State) (len : Word) (n : Nat) : (s.retire len n).cart = s.cart := rfl
@[simp] theorem State.retire_vram (s : State) (len : Word) (n : Nat) : (s.retire len n).vram = s.vram := rfl
@[simp] theorem State.retire_oam (s : State) (len : Word) (n : Nat) : (s.retire len n).oam = s.oam := rfl
@[simp] theorem State.retire_wram (s : State) (len : Word) (n : Nat) : (s.retire len n).wram = s.wram := rfl
@[simp] theorem State.retire_hram (s : State) (len : Word) (n : Nat) : (s.retire len n).hram = s.hram := rfl
@[simp] theorem State.retire_buttonsIn (s : State) (len : Word) (n : Nat) : (s.retire len n).buttonsIn = s.buttonsIn := rfl
@[simp] theorem State.retire_out (s : State) (len : Word) (n : Nat) : (s.retire len n).out = s.out := rfl
@[simp] theorem State.retire_params (s : State) (len : Word) (n : Nat) : (s.retire len n).params = s.params := rfl

@[simp] theorem State.retire_cpu_a (s : State) (len : Word) (n : Nat) : (s.retire len n).cpu.a = s.cpu.a := rfl
@[simp] theorem State.retire_cpu_f (s : State) (len : Word) (n : Nat) : (s.retire len n).cpu.f = s.cpu.f := rfl
@[simp] theorem State.retire_cpu_b (s : State) (len : Word) (n : Nat) : (s.retire len n).cpu.b = s.cpu.b := rfl
@[simp] theorem State.retire_cpu_c (s : State) (len : Word) (n : Nat) : (s.retire len n).cpu.c = s.cpu.c := rfl
@[simp] theorem State.retire_cpu_d (s : State) (len : Word) (n : Nat) : (s.retire len n).cpu.d = s.cpu.d := rfl
@[simp] theorem State.retire_cpu_e (s : State) (len : Word) (n : Nat) : (s.retire len n).cpu.e = s.cpu.e := rfl
@[simp] theorem State.retire_cpu_h (s : State) (len : Word) (n : Nat) : (s.retire len n).cpu.h = s.cpu.h := rfl
@[simp] theorem State.retire_cpu_l (s : State) (len : Word) (n : Nat) : (s.retire len n).cpu.l = s.cpu.l := rfl
@[simp] theorem State.retire_cpu_sp (s : State) (len : Word) (n : Nat) : (s.retire len n).cpu.sp = s.cpu.sp := rfl
@[simp] theorem State.retire_cpu_pc (s : State) (len : Word) (n : Nat) : (s.retire len n).cpu.pc = s.cpu.pc + len := rfl
@[simp] theorem State.retire_cpu_ime (s : State) (len : Word) (n : Nat) : (s.retire len n).cpu.ime = s.cpu.ime := rfl
@[simp] theorem State.retire_cpu_halted (s : State) (len : Word) (n : Nat) : (s.retire len n).cpu.halted = s.cpu.halted := rfl
@[simp] theorem State.retire_cpu_busy (s : State) (len : Word) (n : Nat) : (s.retire len n).cpu.busy = n / 4 - 1 := rfl

@[simp] theorem State.retire_get8 (s : State) (len : Word) (n : Nat) (r : R8) : (s.retire len n).cpu.get8 r = s.cpu.get8 r := by cases r <;> rfl
@[simp] theorem State.retire_flags (s : State) (len : Word) (n : Nat) : (s.retire len n).cpu.flags = s.cpu.flags := rfl
@[simp] theorem State.retire_hl (s : State) (len : Word) (n : Nat) : (s.retire len n).cpu.hl = s.cpu.hl := rfl

/-! ## State.jump -/

@[simp] theorem State.jump_fault (s : State) (target : Word) (n : Nat) : (s.jump target n).fault = s.fault := rfl
@[simp] theorem State.jump_ifReg (s : State) (target : Word) (n : Nat) : (s.jump target n).ifReg = s.ifReg := rfl
@[simp] theorem State.jump_ie (s : State) (target : Word) (n : Nat) : (s.jump target n).ie = s.ie := rfl
@[simp] theorem State.jump_timer (s : State) (target : Word) (n : Nat) : (s.jump target n).timer = s.timer := rfl
@[simp] theorem State.jump_serial (s : State) (target : Word) (n : Nat) : (s.jump target n).serial = s.serial := rfl
@[simp] theorem State.jump_joypad (s : State) (target : Word) (n : Nat) : (s.jump target n).joypad = s.joypad := rfl
@[simp] theorem State.jump_dma (s : State) (target : Word) (n : Nat) : (s.jump target n).dma = s.dma := rfl
@[simp] theorem State.jump_ppu (s : State) (target : Word) (n : Nat) : (s.jump target n).ppu = s.ppu := rfl
@[simp] theorem State.jump_apu (s : State) (target : Word) (n : Nat) : (s.jump target n).apu = s.apu := rfl
@[simp] theorem State.jump_mapper (s : State) (target : Word) (n : Nat) : (s.jump target n).mapper = s.mapper := rfl
@[simp] theorem State.jump_cart (s : State) (target : Word) (n : Nat) : (s.jump target n).cart = s.cart := rfl
@[simp] theorem State.jump_vram (s : State) (target : Word) (n : Nat) : (s.jump target n).vram = s.vram := rfl
@[simp] theorem State.jump_oam (s : State) (target : Word) (n : Nat) : (s.jump target n).oam = s.oam := rfl
@[simp] theorem State.jump_wram (s : State) (target : Word) (n : Nat) : (s.jump target n).wram = s.wram := rfl
@[simp] theorem State.jump_hram (s : State) (target : Word) (n : Nat) : (s.jump target n).hram = s.hram := rfl
@[simp] theorem State.jump_buttonsIn (s : State) (target : Word) (n : Nat) : (s.jump target n).buttonsIn = s.buttonsIn := rfl
@[simp] theorem State.jump_out (s : State) (target : Word) (n : Nat) : (s.jump target n).out = s.out := rfl
@[simp] theorem State.jump_params (s : State) (target : Word) (n : Nat) : (s.jump target n).params = s.params := rfl

@[simp] theorem State.jump_cpu_a (s : State) (target : Word) (n : Nat) : (s.jump target n).cpu.a = s.cpu.a := rfl
@[simp] theorem State.jump_cpu_f (s : State) (target : Word) (n : Nat) : (s.jump target n).cpu.f = s.cpu.f := rfl
@[simp] theorem State.jump_cpu_b (s : State) (target : Word) (n : Nat) : (s.jump target n).cpu.b = s.cpu.b := rfl
@[simp] theorem State.jump_cpu_c (s : State) (target : Word) (n : Nat) : (s.jump target n).cpu.c = s.cpu.c := rfl
@[simp] theorem State.jump_cpu_d (s : State) (target : Word) (n : Nat) : (s.jump target n).cpu.d = s.cpu.d := rfl
@[simp] theorem State.jump_cpu_e (s : State) (target : Word) (n : Nat) : (s.jump target n).cpu.e = s.cpu.e := rfl
@[simp] theorem State.jump_cpu_h (s : State) (target : Word) (n : Nat) : (s.jump target n).cpu.h = s.cpu.h := rfl
@[simp] theorem State.jump_cpu_l (s : State) (target : Word) (n : Nat) : (s.jump target n).cpu.l = s.cpu.l := rfl
@[simp] theorem State.jump_cpu_sp (s : State) (target : Word) (n : Nat) : (s.jump target n).cpu.sp = s.cpu.sp := rfl
@[simp] theorem State.jump_cpu_pc (s : State) (target : Word) (n : Nat) : (s.jump target n).cpu.pc = target := rfl
@[simp] theorem State.jump_cpu_ime (s : State) (target : Word) (n : Nat) : (s.jump target n).cpu.ime = s.cpu.ime := rfl
@[simp] theorem State.jump_cpu_halted (s : State) (target : Word) (n : Nat) : (s.jump target n).cpu.halted = s.cpu.halted := rfl
@[simp] theorem State.jump_cpu_busy (s : State) (target : Word) (n : Nat) : (s.jump target n).cpu.busy = n / 4 - 1 := rfl

@[simp] theorem State.jump_get8 (s : State) (target : Word) (n : Nat) (r : R8) : (s.jump target n).cpu.get8 r = s.cpu.get8 r := by cases r <;> rfl
@[simp] theorem State.jump_flags (s : State) (target : Word) (n : Nat) : (s.jump target n).cpu.flags = s.cpu.flags := rfl
@[simp] theorem State.jump_hl (s : State) (target : Word) (n : Nat) : (s.jump target n).cpu.hl = s.cpu.hl := rfl

/-! ## Cpu.set8 -/

@[simp] theorem Cpu.set8_f (c : Cpu) (r : R8) (v : Byte) : (c.set8 r v).f = c.f := by cases r <;> rfl
@[simp] theorem Cpu.set8_sp (c : Cpu) (r : R8) (v : Byte) : (c.set8 r v).sp = c.sp := by cases r <;> rfl
@[simp] theorem Cpu.set8_pc (c : Cpu) (r : R8) (v : Byte) : (c.set8 r v).pc = c.pc := by cases r <;> rfl
@[simp] theorem Cpu.set8_ime (c : Cpu) (r : R8) (v : Byte) : (c.set8 r v).ime = c.ime := by cases r <;> rfl
@[simp] theorem Cpu.set8_halted (c : Cpu) (r : R8) (v : Byte) : (c.set8 r v).halted = c.halted := by cases r <;> rfl
@[simp] theorem Cpu.set8_busy (c : Cpu) (r : R8) (v : Byte) : (c.set8 r v).busy = c.busy := by cases r <;> rfl

@[simp] theorem Cpu.set8_get8_same (c : Cpu) (r : R8) (v : Byte) : (c.set8 r v).get8 r = v := by cases r <;> rfl

theorem Cpu.set8_get8_ne (c : Cpu) {r q : R8} (h : q ≠ r) (v : Byte) : (c.set8 r v).get8 q = c.get8 q := by
  cases r <;> cases q <;> first | rfl | exact absurd rfl h

/-! ## Cpu.setFlags -/

@[simp] theorem Cpu.setFlags_a (c : Cpu) (fl : Flags) : (c.setFlags fl).a = c.a := rfl
@[simp] theorem Cpu.setFlags_b (c : Cpu) (fl : Flags) : (c.setFlags fl).b = c.b := rfl
@[simp] theorem Cpu.setFlags_c (c : Cpu) (fl : Flags) : (c.setFlags fl).c = c.c := rfl
@[simp] theorem Cpu.setFlags_d (c : Cpu) (fl : Flags) : (c.setFlags fl).d = c.d := rfl
@[simp] theorem Cpu.setFlags_e (c : Cpu) (fl : Flags) : (c.setFlags fl).e = c.e := rfl
@[simp] theorem Cpu.setFlags_h (c : Cpu) (fl : Flags) : (c.setFlags fl).h = c.h := rfl
@[simp] theorem Cpu.setFlags_l (c : Cpu) (fl : Flags) : (c.setFlags fl).l = c.l := rfl
@[simp] theorem Cpu.setFlags_sp (c : Cpu) (fl : Flags) : (c.setFlags fl).sp = c.sp := rfl
@[simp] theorem Cpu.setFlags_pc (c : Cpu) (fl : Flags) : (c.setFlags fl).pc = c.pc := rfl
@[simp] theorem Cpu.setFlags_ime (c : Cpu) (fl : Flags) : (c.setFlags fl).ime = c.ime := rfl
@[simp] theorem Cpu.setFlags_halted (c : Cpu) (fl : Flags) : (c.setFlags fl).halted = c.halted := rfl
@[simp] theorem Cpu.setFlags_busy (c : Cpu) (fl : Flags) : (c.setFlags fl).busy = c.busy := rfl

/-! ## Cpu.setF -/

@[simp] theorem Cpu.setF_a (c : Cpu) (v : Byte) : (c.setF v).a = c.a := rfl
@[simp] theorem Cpu.setF_b (c : Cpu) (v : Byte) : (c.setF v).b = c.b := rfl
@[simp] theorem Cpu.setF_c (c : Cpu) (v : Byte) : (c.setF v).c = c.c := rfl
@[simp] theorem Cpu.setF_d (c : Cpu) (v : Byte) : (c.setF v).d = c.d := rfl
@[simp] theorem Cpu.setF_e (c : Cpu) (v : Byte) : (c.setF v).e = c.e := rfl
@[simp] theorem Cpu.setF_h (c : Cpu) (v : Byte) : (c.setF v).h = c.h := rfl
@[simp] theorem Cpu.setF_l (c : Cpu) (v : Byte) : (c.setF v).l = c.l := rfl
@[simp] theorem Cpu.setF_sp (c : Cpu) (v : Byte) : (c.setF v).sp = c.sp := rfl
@[simp] theorem Cpu.setF_pc (c : Cpu) (v : Byte) : (c.setF v).pc = c.pc := rfl
@[simp] theorem Cpu.setF_ime (c : Cpu) (v : Byte) : (c.setF v).ime = c.ime := rfl
@[simp] theorem Cpu.setF_halted (c : Cpu) (v : Byte) : (c.setF v).halted = c.halted := rfl
@[simp] theorem Cpu.setF_busy (c : Cpu) (v : Byte) : (c.setF v).busy = c.busy := rfl

/-! ## Cpu.setHl -/

@[simp] theorem Cpu.setHl_a (c : Cpu) (v : Word) : (c.setHl v).a = c.a := rfl
@[simp] theorem Cpu.setHl_f (c : Cpu) (v : Word) : (c.setHl v).f = c.f := rfl
@[simp] theorem Cpu.setHl_b (c : Cpu) (v : Word) : (c.setHl v).b = c.b := rfl
@[simp] theorem Cpu.setHl_c (c : Cpu) (v : Word) : (c.setHl v).c = c.c := rfl
@[simp] theorem Cpu.setHl_d (c : Cpu) (v : Word) : (c.setHl v).d = c.d := rfl
@[simp] theorem Cpu.setHl_e (c : Cpu) (v : Word) : (c.setHl v).e = c.e := rfl
@[simp] theorem Cpu.setHl_sp (c : Cpu) (v : Word) : (c.setHl v).sp = c.sp := rfl
@[simp] theorem Cpu.setHl_pc (c : Cpu) (v : Word) : (c.setHl v).pc = c.pc := rfl
@[simp] theorem Cpu.setHl_ime (c : Cpu) (v : Word) : (c.setHl v).ime = c.ime := rfl
@[simp] theorem Cpu.setHl_halted (c : Cpu) (v : Word) : (c.setHl v).halted = c.halted := rfl
@[simp] theorem Cpu.setHl_busy (c : Cpu) (v : Word) : (c.setHl v).busy = c.busy := rfl

/-! ## Cpu.set16 -/

@[simp] theorem Cpu.set16_a (c : Cpu) (r : R16) (v : Word) : (c.set16 r v).a = c.a := by cases r <;> rfl
@[simp] theorem Cpu.set16_f (c : Cpu) (r : R16) (v : Word) : (c.set16 r v).f = c.f := by cases r <;> rfl
@[simp] theorem Cpu.set16_pc (c : Cpu) (r : R16) (v : Word) : (c.set16 r v).pc = c.pc := by cases r <;> rfl
@[simp] theorem Cpu.set16_ime (c : Cpu) (r : R16) (v : Word) : (c.set16 r v).ime = c.ime := by cases r <;> rfl
@[simp] theorem Cpu.set16_halted (c : Cpu) (r : R16) (v : Word) : (c.set16 r v).halted = c.halted := by cases r <;> rfl
@[simp] theorem Cpu.set16_busy (c : Cpu) (r : R16) (v : Word) : (c.set16 r v).busy = c.busy := by cases r <;> rfl

/-! ## Cpu.setStk -/

@[simp] theorem Cpu.setStk_sp (c : Cpu) (r : R16Stk) (v : Word) : (c.setStk r v).sp = c.sp := by cases r <;> rfl
@[simp] theorem Cpu.setStk_pc (c : Cpu) (r : R16Stk) (v : Word) : (c.setStk r v).pc = c.pc := by cases r <;> rfl
@[simp] theorem Cpu.setStk_ime (c : Cpu) (r : R16Stk) (v : Word) : (c.setStk r v).ime = c.ime := by cases r <;> rfl
@[simp] theorem Cpu.setStk_halted (c : Cpu) (r : R16Stk) (v : Word) : (c.setStk r v).halted = c.halted := by cases r <;> rfl
@[simp] theorem Cpu.setStk_busy (c : Cpu) (r : R16Stk) (v : Word) : (c.setStk r v).busy = c.busy := by cases r <;> rfl

/-! ## Cpu.memStep -/

@[simp] theorem Cpu.memStep_a (c : Cpu) (m : R16Mem) (a : Word) : (c.memStep m a).a = c.a := by cases m <;> rfl
@[simp] theorem Cpu.memStep_f (c : Cpu) (m : R16Mem) (a : Word) : (c.memStep m a).f = c.f := by cases m <;> rfl
@[simp] theorem Cpu.memStep_b (c : Cpu) (m : R16Mem) (a : Word) : (c.memStep m a).b = c.b := by cases m <;> rfl
@[simp] theorem Cpu.memStep_c (c : Cpu) (m : R16Mem) (a : Word) : (c.memStep m a).c = c.c := by cases m <;> rfl
@[simp] theorem Cpu.memStep_d (c : Cpu) (m : R16Mem) (a : Word) : (c.memStep m a).d = c.d := by cases m <;> rfl
@[simp] theorem Cpu.memStep_e (c : Cpu) (m : R16Mem) (a : Word) : (c.memStep m a).e = c.e := by cases m <;> rfl
@[simp] theorem Cpu.memStep_sp (c : Cpu) (m : R16Mem) (a : Word) : (c.memStep m a).sp = c.sp := by cases m <;> rfl
@[simp] theorem Cpu.memStep_pc (c : Cpu) (m : R16Mem) (a : Word) : (c.memStep m a).pc = c.pc := by cases m <;> rfl
@[simp] theorem Cpu.memStep_ime (c : Cpu) (m : R16Mem) (a : Word) : (c.memStep m a).ime = c.ime := by cases m <;> rfl
@[simp] theorem Cpu.memStep_halted (c : Cpu) (m : R16Mem) (a : Word) : (c.memStep m a).halted = c.halted := by cases m <;> rfl
@[simp] theorem Cpu.memStep_busy (c : Cpu) (m : R16Mem) (a : Word) : (c.memStep m a).busy = c.busy := by cases m <;> rfl

/-! ## Cpu.popped -/

@[simp] theorem Cpu.popped_a (c : Cpu)  : (c.popped).a = c.a := rfl
@[simp] theorem Cpu.popped_f (c : Cpu)  : (c.popped).f = c.f := rfl
@[simp] theorem Cpu.popped_b (c : Cpu)  : (c.popped).b = c.b := rfl
@[simp] theorem Cpu.popped_c (c : Cpu)  : (c.popped).c = c.c := rfl
@[simp] theorem Cpu.popped_d (c : Cpu)  : (c.popped).d = c.d := rfl
@[simp] theorem Cpu.popped_e (c : Cpu)  : (c.popped).e = c.e := rfl
@[simp] theorem Cpu.popped_h (c : Cpu)  : (c.popped).h = c.h := rfl
@[simp] theorem Cpu.popped_l (c : Cpu)  : (c.popped).l = c.l := rfl
@[simp] theorem Cpu.popped_pc (c : Cpu)  : (c.popped).pc = c.pc := rfl
@[simp] theorem Cpu.popped_ime (c : Cpu)  : (c.popped).ime = c.ime := rfl
@[simp] theorem Cpu.popped_halted (c : Cpu)  : (c.popped).halted = c.halted := rfl
@[simp] theorem Cpu.popped_busy (c : Cpu)  : (c.popped).busy = c.busy := rfl

/-! ## Cpu.setAF -/

@[simp] theorem Cpu.setAF_b (c : Cpu) (r : Byte × Flags) : (c.setAF r).b = c.b := rfl
@[simp] theorem Cpu.setAF_c (c : Cpu) (r : Byte × Flags) : (c.setAF r).c = c.c := rfl
@[simp] theorem Cpu.setAF_d (c : Cpu) (r : Byte × Flags) : (c.setAF r).d = c.d := rfl
@[simp] theorem Cpu.setAF_e (c : Cpu) (r : Byte × Flags) : (c.setAF r).e = c.e := rfl
@[simp] theorem Cpu.setAF_h (c : Cpu) (r : Byte × Flags) : (c.setAF r).h = c.h := rfl
@[simp] theorem Cpu.setAF_l (c : Cpu) (r : Byte × Flags) : (c.setAF r).l = c.l := rfl
@[simp] theorem Cpu.setAF_sp (c : Cpu) (r : Byte × Flags) : (c.setAF r).sp = c.sp := rfl
@[simp] theorem Cpu.setAF_pc (c : Cpu) (r : Byte × Flags) : (c.setAF r).pc = c.pc := rfl
@[simp] theorem Cpu.setAF_ime (c : Cpu) (r : Byte × Flags) : (c.setAF r).ime = c.ime := rfl
@[simp] theorem Cpu.setAF_halted (c : Cpu) (r : Byte × Flags) : (c.setAF r).halted = c.halted := rfl
@[simp] theorem Cpu.setAF_busy (c : Cpu) (r : Byte × Flags) : (c.setAF r).busy = c.busy := rfl

@[simp] theorem Cpu.setFlags_get8 (c : Cpu) (fl : Flags) (r : R8) : (c.setFlags fl).get8 r = c.get8 r := by cases r <;> rfl

/-- The four flags survive packing into F. -/
@[simp] theorem Flags.unpack_pack (fl : Flags) : Flags.unpack fl.pack = fl := by
  obtain ⟨z, n, h, c⟩ := fl
  cases z <;> cases n <;> cases h <;> cases c <;> decide

@[simp] theorem Cpu.setFlags_flags (c : Cpu) (fl : Flags) : (c.setFlags fl).flags = fl := Flags.unpack_pack fl

@[simp] theorem Cpu.setAF_flags (c : Cpu) (r : Byte × Flags) : (c.setAF r).flags = r.2 := Flags.unpack_pack r.2

@[simp] theorem Cpu.setAF_a (c : Cpu) (r : Byte × Flags) : (c.setAF r).a = r.1 := rfl

/-! ## Pairs as numbers (R9) -/

/-- `{hi, lo}` is `hi * 256 + lo`. -/
theorem pairOf_toNat (hi lo : Byte) : (pairOf hi lo).toNat = hi.toNat * 256 + lo.toNat := by
  unfold pairOf
  rw [BitVec.toNat_append, Nat.shiftLeft_eq, Nat.mul_comm, ← Nat.two_pow_add_eq_or_of_lt lo.isLt]

theorem hiByte_toNat (v : Word) : (hiByte v).toNat = v.toNat / 256 := by
  unfold hiByte
  rw [BitVec.extractLsb'_toNat, Nat.shiftRight_eq_div_pow]
  have := v.isLt
  omega

theorem loByte_toNat (v : Word) : (loByte v).toNat = v.toNat % 256 := by
  unfold loByte
  rw [BitVec.extractLsb'_toNat]
  simp

/-- A pair is its two bytes. -/
@[simp] theorem hiByte_pairOf (hi lo : Byte) : hiByte (pairOf hi lo) = hi := by
  apply BitVec.eq_of_toNat_eq
  rw [hiByte_toNat, pairOf_toNat]
  have := lo.isLt
  omega

@[simp] theorem loByte_pairOf (hi lo : Byte) : loByte (pairOf hi lo) = lo := by
  apply BitVec.eq_of_toNat_eq
  rw [loByte_toNat, pairOf_toNat]
  have := lo.isLt
  omega

@[simp] theorem pairOf_hi_lo (v : Word) : pairOf (hiByte v) (loByte v) = v := by
  apply BitVec.eq_of_toNat_eq
  rw [pairOf_toNat, hiByte_toNat, loByte_toNat]
  omega

theorem pairOf_inj {a b c d : Byte} (h : pairOf a b = pairOf c d) : a = c ∧ b = d := by
  refine ⟨?_, ?_⟩
  · simpa using congrArg hiByte h
  · simpa using congrArg loByte h

@[simp] theorem Cpu.setHl_hl (c : Cpu) (v : Word) : (c.setHl v).hl = v := pairOf_hi_lo v

@[simp] theorem Cpu.set16_get16 (c : Cpu) (r : R16) (v : Word) : (c.set16 r v).get16 r = v := by
  cases r <;> first | exact pairOf_hi_lo v | rfl

/-! ## What writing F leaves in its low nibble (R32) -/

theorem Flags.pack_low (fl : Flags) : fl.pack &&& 0x0F = 0 := by
  obtain ⟨z, n, h, c⟩ := fl
  cases z <;> cases n <;> cases h <;> cases c <;> decide

theorem Cpu.setFlags_f_low (c : Cpu) (fl : Flags) : (c.setFlags fl).f &&& 0x0F = 0 := Flags.pack_low fl

theorem Cpu.setAF_f_low (c : Cpu) (r : Byte × Flags) : (c.setAF r).f &&& 0x0F = 0 := Flags.pack_low r.2

theorem Cpu.setF_f_low (c : Cpu) (v : Byte) : (c.setF v).f &&& 0x0F = 0 := by
  show v &&& 0xF0 &&& 0x0F = 0
  rw [BitVec.and_assoc, show (0xF0 : Byte) &&& 0x0F = 0 from by decide]
  simp

end Sys2Proof.Machine
end

