-- ==== Sys2Proof/Laws/Encoding.lean ====
section
/-! SUPPORT. Decoding by the kind of what follows the opcode (30_encoding.md R181, R186). -/

namespace Sys2Proof

open Sys2Proof.Machine

theorem decode_done {op : Byte} {i : Instr} (h : decodeOpcode op = .done i) (rest : List Byte) :
    decode ([op] ++ rest) = .ok (i, rest) := by
  show (decodeOpcode op).complete op rest = _
  rw [h]
  cases rest with
  | nil => rfl
  | cons a l => cases l <;> rfl

theorem decode_byte {op : Byte} {k : Byte → Instr} (h : decodeOpcode op = .byte k) (n : Byte) (rest : List Byte) :
    decode ([op, n] ++ rest) = .ok (k n, rest) := by
  show (decodeOpcode op).complete op (n :: rest) = _
  rw [h]
  cases rest <;> rfl

theorem decode_word {op : Byte} {k : Word → Instr} (h : decodeOpcode op = .word k) (w : Word) (rest : List Byte) :
    decode ([op, loByte w, hiByte w] ++ rest) = .ok (k w, rest) := by
  show (decodeOpcode op).complete op (loByte w :: hiByte w :: rest) = _
  rw [h]
  show Except.ok (k (pairOf (hiByte w) (loByte w)), rest) = _
  rw [pairOf_hi_lo]

theorem decode_prefixed (n : Byte) (rest : List Byte) : decode ([0xCB, n] ++ rest) = .ok (decodePrefixed n, rest) := by
  show (decodeOpcode 0xCB).complete 0xCB (n :: rest) = _
  cases rest <;> rfl

/-- The cases of a successful decoding. -/
theorem decode_cases {bs : List Byte} {i : Instr} {rest : List Byte} (h : decode bs = .ok (i, rest)) :
    (∃ op, bs = op :: rest ∧ decodeOpcode op = .done i) ∨
    (∃ op n k, bs = op :: n :: rest ∧ decodeOpcode op = .byte k ∧ i = k n) ∨
    (∃ op lo hi k, bs = op :: lo :: hi :: rest ∧ decodeOpcode op = .word k ∧ i = k (pairOf hi lo)) ∨
    (∃ op n, bs = op :: n :: rest ∧ decodeOpcode op = .prefixed ∧ i = decodePrefixed n) := by
  cases bs with
  | nil => cases h
  | cons op l =>
    have h : (decodeOpcode op).complete op l = .ok (i, rest) := h
    cases hp : decodeOpcode op <;> rw [hp] at h
    case done j =>
      have e : Except.ok (j, l) = (Except.ok (i, rest) : Except DecodeError _) := by
        rw [← h]; rcases l with _ | ⟨a, _ | ⟨b, l⟩⟩ <;> rfl
      cases e
      exact .inl ⟨op, rfl, hp⟩
    case byte k =>
      rcases l with _ | ⟨a, l⟩
      · cases h
      · have e : Except.ok (k a, l) = (Except.ok (i, rest) : Except DecodeError _) := by rw [← h]; cases l <;> rfl
        cases e
        exact .inr (.inl ⟨op, a, k, rfl, hp, rfl⟩)
    case word k =>
      rcases l with _ | ⟨a, _ | ⟨b, l⟩⟩
      · cases h
      · cases h
      · cases h
        exact .inr (.inr (.inl ⟨op, a, b, k, rfl, hp, rfl⟩))
    case prefixed =>
      rcases l with _ | ⟨a, l⟩
      · cases h
      · have e : Except.ok (decodePrefixed a, l) = (Except.ok (i, rest) : Except DecodeError _) := by rw [← h]; cases l <;> rfl
        cases e
        exact .inr (.inr (.inr ⟨op, a, rfl, hp, rfl⟩))

end Sys2Proof
end

