-- ==== Sys2Proof/Laws/Forms.lean ====
section
/-! SUPPORT. The instructions by their operands: every constructor is one of the forms of Decode.lean, and what `exec` does with
each form. A proof over all instructions is a proof over the forms. -/

namespace Sys2Proof.Machine

/-! ## exec of a form -/

theorem exec_ldReg (dst src : R8) (s : State) : exec (Instr.ldReg dst src) s = ldReg dst src s := by
  cases dst <;> cases src <;> rfl

theorem exec_ldFromHl (dst : R8) (s : State) : exec (Instr.ldFromHl dst) s = ldFromHl dst s := by
  cases dst <;> rfl

theorem exec_ldToHl (r : R8) (s : State) : exec (Instr.ldToHl r) s = ldToHl r s := by
  cases r <;> rfl

theorem exec_ldRegImm (dst : R8) (n : Byte) (s : State) : exec (Instr.ldRegImm dst n) s = ldImm dst n s := by
  cases dst <;> rfl

theorem exec_ldAFrom (m : R16Mem) (s : State) : exec (Instr.ldAFrom m) s = ldAFrom m s := by
  cases m <;> rfl

theorem exec_ldATo (m : R16Mem) (s : State) : exec (Instr.ldATo m) s = ldATo m s := by
  cases m <;> rfl

theorem exec_ldPair (r : R16) (w : Word) (s : State) : exec (Instr.ldPair r w) s = ldPairImm r w s := by
  cases r <;> rfl

theorem exec_pushStk (r : R16Stk) (s : State) : exec (Instr.pushStk r) s = push r s := by
  cases r <;> rfl

theorem exec_popStk (r : R16Stk) (s : State) : exec (Instr.popStk r) s = pop r s := by
  cases r <;> rfl

theorem exec_alu (op : AluOp) (o : Opnd8) (s : State) : exec (Instr.alu op o) s = aluOpnd op o s := by
  cases op <;> rcases o with r | _ <;> first | rfl | (cases r <;> rfl)

theorem exec_aluD8 (op : AluOp) (n : Byte) (s : State) : exec (Instr.aluD8 op n) s = aluImm op n s := by
  cases op <;> rfl

theorem exec_inc8 (o : Opnd8) (s : State) : exec (Instr.inc8 o) s = incOpnd o s := by
  rcases o with r | _ <;> first | rfl | (cases r <;> rfl)

theorem exec_dec8 (o : Opnd8) (s : State) : exec (Instr.dec8 o) s = decOpnd o s := by
  rcases o with r | _ <;> first | rfl | (cases r <;> rfl)

theorem exec_addHl (r : R16) (s : State) : exec (Instr.addHl r) s = addToHl r s := by
  cases r <;> rfl

theorem exec_inc16 (r : R16) (s : State) : exec (Instr.inc16 r) s = incPair r s := by
  cases r <;> rfl

theorem exec_dec16 (r : R16) (s : State) : exec (Instr.dec16 r) s = decPair r s := by
  cases r <;> rfl

theorem exec_rot (op : RotOp) (o : Opnd8) (s : State) : exec (Instr.rot op o) s = rotOpnd op o s := by
  cases op <;> rcases o with r | _ <;> first | rfl | (cases r <;> rfl)

theorem exec_jrCc (k : Cond) (e : Byte) (s : State) : exec (Instr.jrCc k e) s = whenCond k 2 8 (fun s => .next (s.jump (relTarget s.cpu.pc e) 12)) s := by
  cases k <;> rfl

theorem exec_jpCc (k : Cond) (w : Word) (s : State) : exec (Instr.jpCc k w) s = whenCond k 3 12 (fun s => .next (s.jump w 16)) s := by
  cases k <;> rfl

theorem exec_callCc (k : Cond) (w : Word) (s : State) : exec (Instr.callCc k w) s = whenCond k 3 12 (fun s => callTo w (s.cpu.pc + 3) 24 s) s := by
  cases k <;> rfl

theorem exec_retCc (k : Cond) (s : State) : exec (Instr.retCc k) s = whenCond k 1 8 (returnTo 20) s := by
  cases k <;> rfl

theorem exec_bitB {b : Nat} (hb : b < 8) (o : Opnd8) (s : State) : exec (Instr.bitB b o) s = bitOpnd b o s := by
  interval_cases b <;> rcases o with r | _ <;> first | rfl | (cases r <;> rfl)

theorem exec_resB {b : Nat} (hb : b < 8) (o : Opnd8) (s : State) : exec (Instr.resB b o) s = resOpnd b o s := by
  interval_cases b <;> rcases o with r | _ <;> first | rfl | (cases r <;> rfl)

theorem exec_setB {b : Nat} (hb : b < 8) (o : Opnd8) (s : State) : exec (Instr.setB b o) s = setOpnd b o s := by
  interval_cases b <;> rcases o with r | _ <;> first | rfl | (cases r <;> rfl)

theorem exec_rst {y : Nat} (hy : y < 8) (s : State) :
    exec (Instr.rst y) s = callTo (BitVec.ofNat 16 (8 * y)) (s.cpu.pc + 1) 16 s := by
  interval_cases y <;> rfl

/-! ## Every instruction is a form -/

/-- The forms: the operand families, then the single instructions. -/
inductive IsForm : Instr → Prop where
  | ldReg (dst src : R8) : IsForm (Instr.ldReg dst src)
  | ldFromHl (dst : R8) : IsForm (Instr.ldFromHl dst)
  | ldToHl (r : R8) : IsForm (Instr.ldToHl r)
  | ldRegImm (dst : R8) (n : Byte) : IsForm (Instr.ldRegImm dst n)
  | ldAFrom (m : R16Mem) : IsForm (Instr.ldAFrom m)
  | ldATo (m : R16Mem) : IsForm (Instr.ldATo m)
  | ldPair (r : R16) (w : Word) : IsForm (Instr.ldPair r w)
  | pushStk (r : R16Stk) : IsForm (Instr.pushStk r)
  | popStk (r : R16Stk) : IsForm (Instr.popStk r)
  | alu (op : AluOp) (o : Opnd8) : IsForm (Instr.alu op o)
  | aluD8 (op : AluOp) (n : Byte) : IsForm (Instr.aluD8 op n)
  | inc8 (o : Opnd8) : IsForm (Instr.inc8 o)
  | dec8 (o : Opnd8) : IsForm (Instr.dec8 o)
  | addHl (r : R16) : IsForm (Instr.addHl r)
  | inc16 (r : R16) : IsForm (Instr.inc16 r)
  | dec16 (r : R16) : IsForm (Instr.dec16 r)
  | rot (op : RotOp) (o : Opnd8) : IsForm (Instr.rot op o)
  | jrCc (k : Cond) (e : Byte) : IsForm (Instr.jrCc k e)
  | jpCc (k : Cond) (w : Word) : IsForm (Instr.jpCc k w)
  | callCc (k : Cond) (w : Word) : IsForm (Instr.callCc k w)
  | retCc (k : Cond) : IsForm (Instr.retCc k)
  | bitB (b : Nat) (hb : b < 8) (o : Opnd8) : IsForm (Instr.bitB b o)
  | resB (b : Nat) (hb : b < 8) (o : Opnd8) : IsForm (Instr.resB b o)
  | setB (b : Nat) (hb : b < 8) (o : Opnd8) : IsForm (Instr.setB b o)
  | rst (y : Nat) (hy : y < 8) : IsForm (Instr.rst y)
  | nop : IsForm (Instr.nop)
  | rlca : IsForm (Instr.rlca)
  | ldIndA16Sp (w : Word) : IsForm (Instr.ldIndA16Sp w)
  | rrca : IsForm (Instr.rrca)
  | stop (ignored : Byte) : IsForm (Instr.stop ignored)
  | rla : IsForm (Instr.rla)
  | jrE8 (e : Byte) : IsForm (Instr.jrE8 e)
  | rra : IsForm (Instr.rra)
  | daa : IsForm (Instr.daa)
  | cpl : IsForm (Instr.cpl)
  | ldIndHlD8 (n : Byte) : IsForm (Instr.ldIndHlD8 n)
  | scf : IsForm (Instr.scf)
  | ccf : IsForm (Instr.ccf)
  | halt : IsForm (Instr.halt)
  | jpA16 (w : Word) : IsForm (Instr.jpA16 w)
  | ret : IsForm (Instr.ret)
  | prefixCb (op2 : Byte) : IsForm (Instr.prefixCb op2)
  | callA16 (w : Word) : IsForm (Instr.callA16 w)
  | illegalD3 : IsForm (Instr.illegalD3)
  | reti : IsForm (Instr.reti)
  | illegalDB : IsForm (Instr.illegalDB)
  | illegalDD : IsForm (Instr.illegalDD)
  | ldhIndA8A (n : Byte) : IsForm (Instr.ldhIndA8A n)
  | ldIndCA : IsForm (Instr.ldIndCA)
  | illegalE3 : IsForm (Instr.illegalE3)
  | illegalE4 : IsForm (Instr.illegalE4)
  | addSpE8 (e : Byte) : IsForm (Instr.addSpE8 e)
  | jpHl : IsForm (Instr.jpHl)
  | ldIndA16A (w : Word) : IsForm (Instr.ldIndA16A w)
  | illegalEB : IsForm (Instr.illegalEB)
  | illegalEC : IsForm (Instr.illegalEC)
  | illegalED : IsForm (Instr.illegalED)
  | ldhAIndA8 (n : Byte) : IsForm (Instr.ldhAIndA8 n)
  | ldAIndC : IsForm (Instr.ldAIndC)
  | di : IsForm (Instr.di)
  | illegalF4 : IsForm (Instr.illegalF4)
  | ldHlSpE8 (e : Byte) : IsForm (Instr.ldHlSpE8 e)
  | ldSpHl : IsForm (Instr.ldSpHl)
  | ldAIndA16 (w : Word) : IsForm (Instr.ldAIndA16 w)
  | ei : IsForm (Instr.ei)
  | illegalFC : IsForm (Instr.illegalFC)
  | illegalFD : IsForm (Instr.illegalFD)

/-- Every constructor of Instr is a form. -/
theorem isForm (i : Instr) : IsForm i := by
  cases i with
  | nop => exact .nop
  | ldBcD16 w => exact .ldPair .bc w
  | ldIndBcA => exact .ldATo .bc
  | incBc => exact .inc16 .bc
  | incB => exact .inc8 (.reg .b)
  | decB => exact .dec8 (.reg .b)
  | ldBD8 n => exact .ldRegImm .b n
  | rlca => exact .rlca
  | ldIndA16Sp w => exact .ldIndA16Sp w
  | addHlBc => exact .addHl .bc
  | ldAIndBc => exact .ldAFrom .bc
  | decBc => exact .dec16 .bc
  | incC => exact .inc8 (.reg .c)
  | decC => exact .dec8 (.reg .c)
  | ldCD8 n => exact .ldRegImm .c n
  | rrca => exact .rrca
  | stop ignored => exact .stop ignored
  | ldDeD16 w => exact .ldPair .de w
  | ldIndDeA => exact .ldATo .de
  | incDe => exact .inc16 .de
  | incD => exact .inc8 (.reg .d)
  | decD => exact .dec8 (.reg .d)
  | ldDD8 n => exact .ldRegImm .d n
  | rla => exact .rla
  | jrE8 e => exact .jrE8 e
  | addHlDe => exact .addHl .de
  | ldAIndDe => exact .ldAFrom .de
  | decDe => exact .dec16 .de
  | incE => exact .inc8 (.reg .e)
  | decE => exact .dec8 (.reg .e)
  | ldED8 n => exact .ldRegImm .e n
  | rra => exact .rra
  | jrNzE8 e => exact .jrCc .nz e
  | ldHlD16 w => exact .ldPair .hl w
  | ldIndHlIncA => exact .ldATo .hlInc
  | incHl => exact .inc16 .hl
  | incH => exact .inc8 (.reg .h)
  | decH => exact .dec8 (.reg .h)
  | ldHD8 n => exact .ldRegImm .h n
  | daa => exact .daa
  | jrZE8 e => exact .jrCc .z e
  | addHlHl => exact .addHl .hl
  | ldAIndHlInc => exact .ldAFrom .hlInc
  | decHl => exact .dec16 .hl
  | incL => exact .inc8 (.reg .l)
  | decL => exact .dec8 (.reg .l)
  | ldLD8 n => exact .ldRegImm .l n
  | cpl => exact .cpl
  | jrNcE8 e => exact .jrCc .nc e
  | ldSpD16 w => exact .ldPair .sp w
  | ldIndHlDecA => exact .ldATo .hlDec
  | incSp => exact .inc16 .sp
  | incIndHl => exact .inc8 .indHl
  | decIndHl => exact .dec8 .indHl
  | ldIndHlD8 n => exact .ldIndHlD8 n
  | scf => exact .scf
  | jrCE8 e => exact .jrCc .c e
  | addHlSp => exact .addHl .sp
  | ldAIndHlDec => exact .ldAFrom .hlDec
  | decSp => exact .dec16 .sp
  | incA => exact .inc8 (.reg .a)
  | decA => exact .dec8 (.reg .a)
  | ldAD8 n => exact .ldRegImm .a n
  | ccf => exact .ccf
  | ldBB => exact .ldReg .b .b
  | ldBC => exact .ldReg .b .c
  | ldBD => exact .ldReg .b .d
  | ldBE => exact .ldReg .b .e
  | ldBH => exact .ldReg .b .h
  | ldBL => exact .ldReg .b .l
  | ldBIndHl => exact .ldFromHl .b
  | ldBA => exact .ldReg .b .a
  | ldCB => exact .ldReg .c .b
  | ldCC => exact .ldReg .c .c
  | ldCD => exact .ldReg .c .d
  | ldCE => exact .ldReg .c .e
  | ldCH => exact .ldReg .c .h
  | ldCL => exact .ldReg .c .l
  | ldCIndHl => exact .ldFromHl .c
  | ldCA => exact .ldReg .c .a
  | ldDB => exact .ldReg .d .b
  | ldDC => exact .ldReg .d .c
  | ldDD => exact .ldReg .d .d
  | ldDE => exact .ldReg .d .e
  | ldDH => exact .ldReg .d .h
  | ldDL => exact .ldReg .d .l
  | ldDIndHl => exact .ldFromHl .d
  | ldDA => exact .ldReg .d .a
  | ldEB => exact .ldReg .e .b
  | ldEC => exact .ldReg .e .c
  | ldED => exact .ldReg .e .d
  | ldEE => exact .ldReg .e .e
  | ldEH => exact .ldReg .e .h
  | ldEL => exact .ldReg .e .l
  | ldEIndHl => exact .ldFromHl .e
  | ldEA => exact .ldReg .e .a
  | ldHB => exact .ldReg .h .b
  | ldHC => exact .ldReg .h .c
  | ldHD => exact .ldReg .h .d
  | ldHE => exact .ldReg .h .e
  | ldHH => exact .ldReg .h .h
  | ldHL => exact .ldReg .h .l
  | ldHIndHl => exact .ldFromHl .h
  | ldHA => exact .ldReg .h .a
  | ldLB => exact .ldReg .l .b
  | ldLC => exact .ldReg .l .c
  | ldLD => exact .ldReg .l .d
  | ldLE => exact .ldReg .l .e
  | ldLH => exact .ldReg .l .h
  | ldLL => exact .ldReg .l .l
  | ldLIndHl => exact .ldFromHl .l
  | ldLA => exact .ldReg .l .a
  | ldIndHlB => exact .ldToHl .b
  | ldIndHlC => exact .ldToHl .c
  | ldIndHlD => exact .ldToHl .d
  | ldIndHlE => exact .ldToHl .e
  | ldIndHlH => exact .ldToHl .h
  | ldIndHlL => exact .ldToHl .l
  | halt => exact .halt
  | ldIndHlA => exact .ldToHl .a
  | ldAB => exact .ldReg .a .b
  | ldAC => exact .ldReg .a .c
  | ldAD => exact .ldReg .a .d
  | ldAE => exact .ldReg .a .e
  | ldAH => exact .ldReg .a .h
  | ldAL => exact .ldReg .a .l
  | ldAIndHl => exact .ldFromHl .a
  | ldAA => exact .ldReg .a .a
  | addAB => exact .alu .add (.reg .b)
  | addAC => exact .alu .add (.reg .c)
  | addAD => exact .alu .add (.reg .d)
  | addAE => exact .alu .add (.reg .e)
  | addAH => exact .alu .add (.reg .h)
  | addAL => exact .alu .add (.reg .l)
  | addAIndHl => exact .alu .add .indHl
  | addAA => exact .alu .add (.reg .a)
  | adcAB => exact .alu .adc (.reg .b)
  | adcAC => exact .alu .adc (.reg .c)
  | adcAD => exact .alu .adc (.reg .d)
  | adcAE => exact .alu .adc (.reg .e)
  | adcAH => exact .alu .adc (.reg .h)
  | adcAL => exact .alu .adc (.reg .l)
  | adcAIndHl => exact .alu .adc .indHl
  | adcAA => exact .alu .adc (.reg .a)
  | subAB => exact .alu .sub (.reg .b)
  | subAC => exact .alu .sub (.reg .c)
  | subAD => exact .alu .sub (.reg .d)
  | subAE => exact .alu .sub (.reg .e)
  | subAH => exact .alu .sub (.reg .h)
  | subAL => exact .alu .sub (.reg .l)
  | subAIndHl => exact .alu .sub .indHl
  | subAA => exact .alu .sub (.reg .a)
  | sbcAB => exact .alu .sbc (.reg .b)
  | sbcAC => exact .alu .sbc (.reg .c)
  | sbcAD => exact .alu .sbc (.reg .d)
  | sbcAE => exact .alu .sbc (.reg .e)
  | sbcAH => exact .alu .sbc (.reg .h)
  | sbcAL => exact .alu .sbc (.reg .l)
  | sbcAIndHl => exact .alu .sbc .indHl
  | sbcAA => exact .alu .sbc (.reg .a)
  | andAB => exact .alu .and (.reg .b)
  | andAC => exact .alu .and (.reg .c)
  | andAD => exact .alu .and (.reg .d)
  | andAE => exact .alu .and (.reg .e)
  | andAH => exact .alu .and (.reg .h)
  | andAL => exact .alu .and (.reg .l)
  | andAIndHl => exact .alu .and .indHl
  | andAA => exact .alu .and (.reg .a)
  | xorAB => exact .alu .xor (.reg .b)
  | xorAC => exact .alu .xor (.reg .c)
  | xorAD => exact .alu .xor (.reg .d)
  | xorAE => exact .alu .xor (.reg .e)
  | xorAH => exact .alu .xor (.reg .h)
  | xorAL => exact .alu .xor (.reg .l)
  | xorAIndHl => exact .alu .xor .indHl
  | xorAA => exact .alu .xor (.reg .a)
  | orAB => exact .alu .or (.reg .b)
  | orAC => exact .alu .or (.reg .c)
  | orAD => exact .alu .or (.reg .d)
  | orAE => exact .alu .or (.reg .e)
  | orAH => exact .alu .or (.reg .h)
  | orAL => exact .alu .or (.reg .l)
  | orAIndHl => exact .alu .or .indHl
  | orAA => exact .alu .or (.reg .a)
  | cpAB => exact .alu .cp (.reg .b)
  | cpAC => exact .alu .cp (.reg .c)
  | cpAD => exact .alu .cp (.reg .d)
  | cpAE => exact .alu .cp (.reg .e)
  | cpAH => exact .alu .cp (.reg .h)
  | cpAL => exact .alu .cp (.reg .l)
  | cpAIndHl => exact .alu .cp .indHl
  | cpAA => exact .alu .cp (.reg .a)
  | retNz => exact .retCc .nz
  | popBc => exact .popStk .bc
  | jpNzA16 w => exact .jpCc .nz w
  | jpA16 w => exact .jpA16 w
  | callNzA16 w => exact .callCc .nz w
  | pushBc => exact .pushStk .bc
  | addAD8 n => exact .aluD8 .add n
  | rst00 => exact .rst 0 (by decide)
  | retZ => exact .retCc .z
  | ret => exact .ret
  | jpZA16 w => exact .jpCc .z w
  | prefixCb op2 => exact .prefixCb op2
  | callZA16 w => exact .callCc .z w
  | callA16 w => exact .callA16 w
  | adcAD8 n => exact .aluD8 .adc n
  | rst08 => exact .rst 1 (by decide)
  | retNc => exact .retCc .nc
  | popDe => exact .popStk .de
  | jpNcA16 w => exact .jpCc .nc w
  | illegalD3 => exact .illegalD3
  | callNcA16 w => exact .callCc .nc w
  | pushDe => exact .pushStk .de
  | subAD8 n => exact .aluD8 .sub n
  | rst10 => exact .rst 2 (by decide)
  | retC => exact .retCc .c
  | reti => exact .reti
  | jpCA16 w => exact .jpCc .c w
  | illegalDB => exact .illegalDB
  | callCA16 w => exact .callCc .c w
  | illegalDD => exact .illegalDD
  | sbcAD8 n => exact .aluD8 .sbc n
  | rst18 => exact .rst 3 (by decide)
  | ldhIndA8A n => exact .ldhIndA8A n
  | popHl => exact .popStk .hl
  | ldIndCA => exact .ldIndCA
  | illegalE3 => exact .illegalE3
  | illegalE4 => exact .illegalE4
  | pushHl => exact .pushStk .hl
  | andAD8 n => exact .aluD8 .and n
  | rst20 => exact .rst 4 (by decide)
  | addSpE8 e => exact .addSpE8 e
  | jpHl => exact .jpHl
  | ldIndA16A w => exact .ldIndA16A w
  | illegalEB => exact .illegalEB
  | illegalEC => exact .illegalEC
  | illegalED => exact .illegalED
  | xorAD8 n => exact .aluD8 .xor n
  | rst28 => exact .rst 5 (by decide)
  | ldhAIndA8 n => exact .ldhAIndA8 n
  | popAf => exact .popStk .af
  | ldAIndC => exact .ldAIndC
  | di => exact .di
  | illegalF4 => exact .illegalF4
  | pushAf => exact .pushStk .af
  | orAD8 n => exact .aluD8 .or n
  | rst30 => exact .rst 6 (by decide)
  | ldHlSpE8 e => exact .ldHlSpE8 e
  | ldSpHl => exact .ldSpHl
  | ldAIndA16 w => exact .ldAIndA16 w
  | ei => exact .ei
  | illegalFC => exact .illegalFC
  | illegalFD => exact .illegalFD
  | cpAD8 n => exact .aluD8 .cp n
  | rst38 => exact .rst 7 (by decide)
  | rlcB => exact .rot .rlc (.reg .b)
  | rlcC => exact .rot .rlc (.reg .c)
  | rlcD => exact .rot .rlc (.reg .d)
  | rlcE => exact .rot .rlc (.reg .e)
  | rlcH => exact .rot .rlc (.reg .h)
  | rlcL => exact .rot .rlc (.reg .l)
  | rlcIndHl => exact .rot .rlc .indHl
  | rlcA => exact .rot .rlc (.reg .a)
  | rrcB => exact .rot .rrc (.reg .b)
  | rrcC => exact .rot .rrc (.reg .c)
  | rrcD => exact .rot .rrc (.reg .d)
  | rrcE => exact .rot .rrc (.reg .e)
  | rrcH => exact .rot .rrc (.reg .h)
  | rrcL => exact .rot .rrc (.reg .l)
  | rrcIndHl => exact .rot .rrc .indHl
  | rrcA => exact .rot .rrc (.reg .a)
  | rlB => exact .rot .rl (.reg .b)
  | rlC => exact .rot .rl (.reg .c)
  | rlD => exact .rot .rl (.reg .d)
  | rlE => exact .rot .rl (.reg .e)
  | rlH => exact .rot .rl (.reg .h)
  | rlL => exact .rot .rl (.reg .l)
  | rlIndHl => exact .rot .rl .indHl
  | rlA => exact .rot .rl (.reg .a)
  | rrB => exact .rot .rr (.reg .b)
  | rrC => exact .rot .rr (.reg .c)
  | rrD => exact .rot .rr (.reg .d)
  | rrE => exact .rot .rr (.reg .e)
  | rrH => exact .rot .rr (.reg .h)
  | rrL => exact .rot .rr (.reg .l)
  | rrIndHl => exact .rot .rr .indHl
  | rrA => exact .rot .rr (.reg .a)
  | slaB => exact .rot .sla (.reg .b)
  | slaC => exact .rot .sla (.reg .c)
  | slaD => exact .rot .sla (.reg .d)
  | slaE => exact .rot .sla (.reg .e)
  | slaH => exact .rot .sla (.reg .h)
  | slaL => exact .rot .sla (.reg .l)
  | slaIndHl => exact .rot .sla .indHl
  | slaA => exact .rot .sla (.reg .a)
  | sraB => exact .rot .sra (.reg .b)
  | sraC => exact .rot .sra (.reg .c)
  | sraD => exact .rot .sra (.reg .d)
  | sraE => exact .rot .sra (.reg .e)
  | sraH => exact .rot .sra (.reg .h)
  | sraL => exact .rot .sra (.reg .l)
  | sraIndHl => exact .rot .sra .indHl
  | sraA => exact .rot .sra (.reg .a)
  | swapB => exact .rot .swap (.reg .b)
  | swapC => exact .rot .swap (.reg .c)
  | swapD => exact .rot .swap (.reg .d)
  | swapE => exact .rot .swap (.reg .e)
  | swapH => exact .rot .swap (.reg .h)
  | swapL => exact .rot .swap (.reg .l)
  | swapIndHl => exact .rot .swap .indHl
  | swapA => exact .rot .swap (.reg .a)
  | srlB => exact .rot .srl (.reg .b)
  | srlC => exact .rot .srl (.reg .c)
  | srlD => exact .rot .srl (.reg .d)
  | srlE => exact .rot .srl (.reg .e)
  | srlH => exact .rot .srl (.reg .h)
  | srlL => exact .rot .srl (.reg .l)
  | srlIndHl => exact .rot .srl .indHl
  | srlA => exact .rot .srl (.reg .a)
  | bit0B => exact .bitB 0 (by decide) (.reg .b)
  | bit0C => exact .bitB 0 (by decide) (.reg .c)
  | bit0D => exact .bitB 0 (by decide) (.reg .d)
  | bit0E => exact .bitB 0 (by decide) (.reg .e)
  | bit0H => exact .bitB 0 (by decide) (.reg .h)
  | bit0L => exact .bitB 0 (by decide) (.reg .l)
  | bit0IndHl => exact .bitB 0 (by decide) .indHl
  | bit0A => exact .bitB 0 (by decide) (.reg .a)
  | bit1B => exact .bitB 1 (by decide) (.reg .b)
  | bit1C => exact .bitB 1 (by decide) (.reg .c)
  | bit1D => exact .bitB 1 (by decide) (.reg .d)
  | bit1E => exact .bitB 1 (by decide) (.reg .e)
  | bit1H => exact .bitB 1 (by decide) (.reg .h)
  | bit1L => exact .bitB 1 (by decide) (.reg .l)
  | bit1IndHl => exact .bitB 1 (by decide) .indHl
  | bit1A => exact .bitB 1 (by decide) (.reg .a)
  | bit2B => exact .bitB 2 (by decide) (.reg .b)
  | bit2C => exact .bitB 2 (by decide) (.reg .c)
  | bit2D => exact .bitB 2 (by decide) (.reg .d)
  | bit2E => exact .bitB 2 (by decide) (.reg .e)
  | bit2H => exact .bitB 2 (by decide) (.reg .h)
  | bit2L => exact .bitB 2 (by decide) (.reg .l)
  | bit2IndHl => exact .bitB 2 (by decide) .indHl
  | bit2A => exact .bitB 2 (by decide) (.reg .a)
  | bit3B => exact .bitB 3 (by decide) (.reg .b)
  | bit3C => exact .bitB 3 (by decide) (.reg .c)
  | bit3D => exact .bitB 3 (by decide) (.reg .d)
  | bit3E => exact .bitB 3 (by decide) (.reg .e)
  | bit3H => exact .bitB 3 (by decide) (.reg .h)
  | bit3L => exact .bitB 3 (by decide) (.reg .l)
  | bit3IndHl => exact .bitB 3 (by decide) .indHl
  | bit3A => exact .bitB 3 (by decide) (.reg .a)
  | bit4B => exact .bitB 4 (by decide) (.reg .b)
  | bit4C => exact .bitB 4 (by decide) (.reg .c)
  | bit4D => exact .bitB 4 (by decide) (.reg .d)
  | bit4E => exact .bitB 4 (by decide) (.reg .e)
  | bit4H => exact .bitB 4 (by decide) (.reg .h)
  | bit4L => exact .bitB 4 (by decide) (.reg .l)
  | bit4IndHl => exact .bitB 4 (by decide) .indHl
  | bit4A => exact .bitB 4 (by decide) (.reg .a)
  | bit5B => exact .bitB 5 (by decide) (.reg .b)
  | bit5C => exact .bitB 5 (by decide) (.reg .c)
  | bit5D => exact .bitB 5 (by decide) (.reg .d)
  | bit5E => exact .bitB 5 (by decide) (.reg .e)
  | bit5H => exact .bitB 5 (by decide) (.reg .h)
  | bit5L => exact .bitB 5 (by decide) (.reg .l)
  | bit5IndHl => exact .bitB 5 (by decide) .indHl
  | bit5A => exact .bitB 5 (by decide) (.reg .a)
  | bit6B => exact .bitB 6 (by decide) (.reg .b)
  | bit6C => exact .bitB 6 (by decide) (.reg .c)
  | bit6D => exact .bitB 6 (by decide) (.reg .d)
  | bit6E => exact .bitB 6 (by decide) (.reg .e)
  | bit6H => exact .bitB 6 (by decide) (.reg .h)
  | bit6L => exact .bitB 6 (by decide) (.reg .l)
  | bit6IndHl => exact .bitB 6 (by decide) .indHl
  | bit6A => exact .bitB 6 (by decide) (.reg .a)
  | bit7B => exact .bitB 7 (by decide) (.reg .b)
  | bit7C => exact .bitB 7 (by decide) (.reg .c)
  | bit7D => exact .bitB 7 (by decide) (.reg .d)
  | bit7E => exact .bitB 7 (by decide) (.reg .e)
  | bit7H => exact .bitB 7 (by decide) (.reg .h)
  | bit7L => exact .bitB 7 (by decide) (.reg .l)
  | bit7IndHl => exact .bitB 7 (by decide) .indHl
  | bit7A => exact .bitB 7 (by decide) (.reg .a)
  | res0B => exact .resB 0 (by decide) (.reg .b)
  | res0C => exact .resB 0 (by decide) (.reg .c)
  | res0D => exact .resB 0 (by decide) (.reg .d)
  | res0E => exact .resB 0 (by decide) (.reg .e)
  | res0H => exact .resB 0 (by decide) (.reg .h)
  | res0L => exact .resB 0 (by decide) (.reg .l)
  | res0IndHl => exact .resB 0 (by decide) .indHl
  | res0A => exact .resB 0 (by decide) (.reg .a)
  | res1B => exact .resB 1 (by decide) (.reg .b)
  | res1C => exact .resB 1 (by decide) (.reg .c)
  | res1D => exact .resB 1 (by decide) (.reg .d)
  | res1E => exact .resB 1 (by decide) (.reg .e)
  | res1H => exact .resB 1 (by decide) (.reg .h)
  | res1L => exact .resB 1 (by decide) (.reg .l)
  | res1IndHl => exact .resB 1 (by decide) .indHl
  | res1A => exact .resB 1 (by decide) (.reg .a)
  | res2B => exact .resB 2 (by decide) (.reg .b)
  | res2C => exact .resB 2 (by decide) (.reg .c)
  | res2D => exact .resB 2 (by decide) (.reg .d)
  | res2E => exact .resB 2 (by decide) (.reg .e)
  | res2H => exact .resB 2 (by decide) (.reg .h)
  | res2L => exact .resB 2 (by decide) (.reg .l)
  | res2IndHl => exact .resB 2 (by decide) .indHl
  | res2A => exact .resB 2 (by decide) (.reg .a)
  | res3B => exact .resB 3 (by decide) (.reg .b)
  | res3C => exact .resB 3 (by decide) (.reg .c)
  | res3D => exact .resB 3 (by decide) (.reg .d)
  | res3E => exact .resB 3 (by decide) (.reg .e)
  | res3H => exact .resB 3 (by decide) (.reg .h)
  | res3L => exact .resB 3 (by decide) (.reg .l)
  | res3IndHl => exact .resB 3 (by decide) .indHl
  | res3A => exact .resB 3 (by decide) (.reg .a)
  | res4B => exact .resB 4 (by decide) (.reg .b)
  | res4C => exact .resB 4 (by decide) (.reg .c)
  | res4D => exact .resB 4 (by decide) (.reg .d)
  | res4E => exact .resB 4 (by decide) (.reg .e)
  | res4H => exact .resB 4 (by decide) (.reg .h)
  | res4L => exact .resB 4 (by decide) (.reg .l)
  | res4IndHl => exact .resB 4 (by decide) .indHl
  | res4A => exact .resB 4 (by decide) (.reg .a)
  | res5B => exact .resB 5 (by decide) (.reg .b)
  | res5C => exact .resB 5 (by decide) (.reg .c)
  | res5D => exact .resB 5 (by decide) (.reg .d)
  | res5E => exact .resB 5 (by decide) (.reg .e)
  | res5H => exact .resB 5 (by decide) (.reg .h)
  | res5L => exact .resB 5 (by decide) (.reg .l)
  | res5IndHl => exact .resB 5 (by decide) .indHl
  | res5A => exact .resB 5 (by decide) (.reg .a)
  | res6B => exact .resB 6 (by decide) (.reg .b)
  | res6C => exact .resB 6 (by decide) (.reg .c)
  | res6D => exact .resB 6 (by decide) (.reg .d)
  | res6E => exact .resB 6 (by decide) (.reg .e)
  | res6H => exact .resB 6 (by decide) (.reg .h)
  | res6L => exact .resB 6 (by decide) (.reg .l)
  | res6IndHl => exact .resB 6 (by decide) .indHl
  | res6A => exact .resB 6 (by decide) (.reg .a)
  | res7B => exact .resB 7 (by decide) (.reg .b)
  | res7C => exact .resB 7 (by decide) (.reg .c)
  | res7D => exact .resB 7 (by decide) (.reg .d)
  | res7E => exact .resB 7 (by decide) (.reg .e)
  | res7H => exact .resB 7 (by decide) (.reg .h)
  | res7L => exact .resB 7 (by decide) (.reg .l)
  | res7IndHl => exact .resB 7 (by decide) .indHl
  | res7A => exact .resB 7 (by decide) (.reg .a)
  | set0B => exact .setB 0 (by decide) (.reg .b)
  | set0C => exact .setB 0 (by decide) (.reg .c)
  | set0D => exact .setB 0 (by decide) (.reg .d)
  | set0E => exact .setB 0 (by decide) (.reg .e)
  | set0H => exact .setB 0 (by decide) (.reg .h)
  | set0L => exact .setB 0 (by decide) (.reg .l)
  | set0IndHl => exact .setB 0 (by decide) .indHl
  | set0A => exact .setB 0 (by decide) (.reg .a)
  | set1B => exact .setB 1 (by decide) (.reg .b)
  | set1C => exact .setB 1 (by decide) (.reg .c)
  | set1D => exact .setB 1 (by decide) (.reg .d)
  | set1E => exact .setB 1 (by decide) (.reg .e)
  | set1H => exact .setB 1 (by decide) (.reg .h)
  | set1L => exact .setB 1 (by decide) (.reg .l)
  | set1IndHl => exact .setB 1 (by decide) .indHl
  | set1A => exact .setB 1 (by decide) (.reg .a)
  | set2B => exact .setB 2 (by decide) (.reg .b)
  | set2C => exact .setB 2 (by decide) (.reg .c)
  | set2D => exact .setB 2 (by decide) (.reg .d)
  | set2E => exact .setB 2 (by decide) (.reg .e)
  | set2H => exact .setB 2 (by decide) (.reg .h)
  | set2L => exact .setB 2 (by decide) (.reg .l)
  | set2IndHl => exact .setB 2 (by decide) .indHl
  | set2A => exact .setB 2 (by decide) (.reg .a)
  | set3B => exact .setB 3 (by decide) (.reg .b)
  | set3C => exact .setB 3 (by decide) (.reg .c)
  | set3D => exact .setB 3 (by decide) (.reg .d)
  | set3E => exact .setB 3 (by decide) (.reg .e)
  | set3H => exact .setB 3 (by decide) (.reg .h)
  | set3L => exact .setB 3 (by decide) (.reg .l)
  | set3IndHl => exact .setB 3 (by decide) .indHl
  | set3A => exact .setB 3 (by decide) (.reg .a)
  | set4B => exact .setB 4 (by decide) (.reg .b)
  | set4C => exact .setB 4 (by decide) (.reg .c)
  | set4D => exact .setB 4 (by decide) (.reg .d)
  | set4E => exact .setB 4 (by decide) (.reg .e)
  | set4H => exact .setB 4 (by decide) (.reg .h)
  | set4L => exact .setB 4 (by decide) (.reg .l)
  | set4IndHl => exact .setB 4 (by decide) .indHl
  | set4A => exact .setB 4 (by decide) (.reg .a)
  | set5B => exact .setB 5 (by decide) (.reg .b)
  | set5C => exact .setB 5 (by decide) (.reg .c)
  | set5D => exact .setB 5 (by decide) (.reg .d)
  | set5E => exact .setB 5 (by decide) (.reg .e)
  | set5H => exact .setB 5 (by decide) (.reg .h)
  | set5L => exact .setB 5 (by decide) (.reg .l)
  | set5IndHl => exact .setB 5 (by decide) .indHl
  | set5A => exact .setB 5 (by decide) (.reg .a)
  | set6B => exact .setB 6 (by decide) (.reg .b)
  | set6C => exact .setB 6 (by decide) (.reg .c)
  | set6D => exact .setB 6 (by decide) (.reg .d)
  | set6E => exact .setB 6 (by decide) (.reg .e)
  | set6H => exact .setB 6 (by decide) (.reg .h)
  | set6L => exact .setB 6 (by decide) (.reg .l)
  | set6IndHl => exact .setB 6 (by decide) .indHl
  | set6A => exact .setB 6 (by decide) (.reg .a)
  | set7B => exact .setB 7 (by decide) (.reg .b)
  | set7C => exact .setB 7 (by decide) (.reg .c)
  | set7D => exact .setB 7 (by decide) (.reg .d)
  | set7E => exact .setB 7 (by decide) (.reg .e)
  | set7H => exact .setB 7 (by decide) (.reg .h)
  | set7L => exact .setB 7 (by decide) (.reg .l)
  | set7IndHl => exact .setB 7 (by decide) .indHl
  | set7A => exact .setB 7 (by decide) (.reg .a)

end Sys2Proof.Machine
end

