-- ==== Sys2Proof/Laws/Ops.lean ====
section
/-! SUPPORT. What an instruction can do, said once: the effect of each shared operation, then of `exec` on every instruction, and
of interrupt entry. -/

namespace Sys2Proof.Machine

/-! ## Writes through the bus and the CPU's registers do not meet -/

theorem ioWrite_withCpu (s : State) (c : Cpu) (r : IoReg) (v : Byte) :
    ioWrite { s with cpu := c } r v = { ioWrite s r v with cpu := c } := by
  cases r <;> try rfl
  simp only [ioWrite, scWrite]
  split <;> rfl

/-- A bus write sees nothing of the CPU. -/
theorem busWrite_withCpu (s : State) (c : Cpu) (a : Word) (v : Byte) :
    busWrite { s with cpu := c } a v = { busWrite s a v with cpu := c } := by
  unfold busWrite
  dsimp only
  cases regionOf a
  case vram => dsimp only; split <;> rfl
  case oam => dsimp only; split <;> rfl
  case cartRam => dsimp only; unfold cartRamWrite; dsimp only; split <;> rfl
  case io => exact ioWrite_withCpu s c _ v
  all_goals rfl

/-! ## Effects -/

/-- `w` is `s` after at most two bus writes: no instruction stores more than two bytes (R107). -/
inductive Stored (s : State) : State → Prop where
  | none : Stored s s
  | one (a : Word) (v : Byte) : Stored s (busWrite s a v)
  | two (a b : Word) (v w : Byte) : Stored s (busWrite (busWrite s a v) b w)

/-- What every instruction may do and no more: at most two bus writes, and registers whose F keeps its low nibble 0, with a time
slot of at most 6 M-cycles; IME as before when `k` says so. -/
structure Effect (k : Bool) (s t : State) : Prop where
  stored : Stored s { t with cpu := s.cpu }
  busy_le : t.cpu.busy ≤ 5
  f_low : s.cpu.f &&& 0x0F = 0 → t.cpu.f &&& 0x0F = 0
  ime : k = true → t.cpu.ime = s.cpu.ime

/-- A result: a next state with an effect, or a fault; never a refusal. -/
def Effects (k : Bool) (s : State) : Result → Prop
  | .next t => Effect k s t
  | .fault _ => True
  | .refused _ => False

theorem Effect.cpuOnly {k : Bool} {s : State} {c : Cpu} (hb : c.busy ≤ 5) (hf : s.cpu.f &&& 0x0F = 0 → c.f &&& 0x0F = 0)
    (hi : k = true → c.ime = s.cpu.ime) : Effect k s { s with cpu := c } := ⟨.none, hb, hf, hi⟩

theorem Effect.store {k : Bool} {s : State} {a : Word} {v : Byte} {c : Cpu} (hb : c.busy ≤ 5)
    (hf : s.cpu.f &&& 0x0F = 0 → c.f &&& 0x0F = 0) (hi : k = true → c.ime = s.cpu.ime) :
    Effect k s { busWrite s a v with cpu := c } := by
  refine ⟨?_, hb, hf, hi⟩
  show Stored s { busWrite s a v with cpu := s.cpu }
  rw [← busWrite_withCpu]
  exact Stored.one a v

theorem Effect.store2 {k : Bool} {s : State} {a b : Word} {v w : Byte} {c : Cpu} (hb : c.busy ≤ 5)
    (hf : s.cpu.f &&& 0x0F = 0 → c.f &&& 0x0F = 0) (hi : k = true → c.ime = s.cpu.ime) :
    Effect k s { busWrite (busWrite s a v) b w with cpu := c } := by
  refine ⟨?_, hb, hf, hi⟩
  show Stored s { busWrite (busWrite s a v) b w with cpu := s.cpu }
  rw [← busWrite_withCpu, ← busWrite_withCpu]
  exact Stored.two a b v w

theorem withRead16_effects {k : Bool} {s : State} {a : Word} {f : Word → Result} (h : ∀ v, Effects k s (f v)) :
    Effects k s (withRead16 s a f) := by
  unfold withRead16
  split
  · trivial
  · exact h _

/-- A push answers the fault of R106, or stores its two bytes and moves SP down by 2. -/
theorem withPush_cases (s : State) (v : Word) (f : State → Result) :
    (s.cpu.sp - 2 = 0xFFFF ∧ withPush s v f = .fault (.wrapAccess16 0xFFFF s.cpu.pc)) ∨
    (s.cpu.sp - 2 ≠ 0xFFFF ∧ withPush s v f =
      f { busWrite (busWrite s (s.cpu.sp - 2) (loByte v)) (s.cpu.sp - 2 + 1) (hiByte v) with
          cpu := { s.cpu with sp := s.cpu.sp - 2 } }) := by
  unfold withPush pushWord
  by_cases h : s.cpu.sp - 2 = 0xFFFF
  · left
    rw [h, memWrite16_fault]
    exact ⟨rfl, rfl⟩
  · right
    rw [memWrite16_ok s h]
    refine ⟨h, ?_⟩
    dsimp only
    rw [busWrite_cpu, busWrite_cpu]

/-- A pop answers the fault of R106, or its continuation on the word at SP. -/
theorem withRead16_cases (s : State) (a : Word) (f : Word → Result) :
    (a = 0xFFFF ∧ withRead16 s a f = .fault (.wrapAccess16 0xFFFF s.cpu.pc)) ∨
    (a ≠ 0xFFFF ∧ withRead16 s a f = f (pairOf (busRead s (a + 1)) (busRead s a))) := by
  unfold withRead16
  by_cases h : a = 0xFFFF
  · subst h
    exact .inl ⟨rfl, by rw [memRead16_fault]⟩
  · exact .inr ⟨h, by rw [memRead16_ok s h]⟩

/-! ## The operations -/

section
variable (k : Bool) (s : State)

theorem Effects.retire (c : Cpu) (len : Word) (n : Nat) (hn : n ≤ 24) (hf : s.cpu.f &&& 0x0F = 0 → c.f &&& 0x0F = 0)
    (hi : k = true → c.ime = s.cpu.ime) : Effects k s (.next (({ s with cpu := c } : State).retire len n)) := by
  refine Effect.cpuOnly (c := ({ c with pc := c.pc + len } : Cpu).report n) ?_ hf hi
  show n / 4 - 1 ≤ 5
  omega

theorem Effects.jump (c : Cpu) (target : Word) (n : Nat) (hn : n ≤ 24) (hf : s.cpu.f &&& 0x0F = 0 → c.f &&& 0x0F = 0)
    (hi : k = true → c.ime = s.cpu.ime) : Effects k s (.next (({ s with cpu := c } : State).jump target n)) := by
  refine Effect.cpuOnly (c := ({ c with pc := target } : Cpu).report n) ?_ hf hi
  show n / 4 - 1 ≤ 5
  omega

theorem Effects.retireStore (a : Word) (v : Byte) (c : Cpu) (len : Word) (n : Nat) (hn : n ≤ 24)
    (hf : s.cpu.f &&& 0x0F = 0 → c.f &&& 0x0F = 0) (hi : k = true → c.ime = s.cpu.ime) :
    Effects k s (.next (({ busWrite s a v with cpu := c } : State).retire len n)) := by
  refine Effect.store (c := ({ c with pc := c.pc + len } : Cpu).report n) ?_ hf hi
  show n / 4 - 1 ≤ 5
  omega

/-- A write that leaves the registers, seen as one over the same registers. -/
theorem busWrite_self (a : Word) (v : Byte) : busWrite s a v = { busWrite s a v with cpu := s.cpu } := by
  rw [← busWrite_withCpu]

theorem Effects.retireStoreOnly (a : Word) (v : Byte) (len : Word) (n : Nat) (hn : n ≤ 24) :
    Effects k s (.next ((busWrite s a v).retire len n)) := by
  rw [busWrite_self]
  exact Effects.retireStore k s a v s.cpu len n hn id (fun _ => rfl)

theorem putOpnd_cases (o : Opnd8) (v : Byte) :
    (∃ r, o = .reg r ∧ s.putOpnd o v = { s with cpu := s.cpu.set8 r v }) ∨
    (o = .indHl ∧ s.putOpnd o v = { busWrite s s.cpu.hl v with cpu := s.cpu }) := by
  cases o with
  | reg r => exact .inl ⟨r, rfl, rfl⟩
  | indHl => exact .inr ⟨rfl, busWrite_self s _ _⟩

theorem Effects.put (o : Opnd8) (v : Byte) (len : Word) (n : Nat) (hn : n ≤ 24) :
    Effects k s (.next ((s.putOpnd o v).retire len n)) := by
  rcases putOpnd_cases s o v with ⟨r, rfl, h⟩ | ⟨rfl, h⟩ <;> rw [h]
  · exact Effects.retire k s _ len n hn (by simp) (by simp)
  · exact Effects.retireStore k s _ _ s.cpu len n hn id (fun _ => rfl)

theorem Effects.modify (o : Opnd8) (x : Byte × Flags) (len : Word) (n : Nat) (hn : n ≤ 24) :
    Effects k s (.next ((s.modify o x).retire len n)) := by
  unfold State.modify
  dsimp only
  rcases putOpnd_cases s o x.1 with ⟨r, rfl, h⟩ | ⟨rfl, h⟩ <;> rw [h]
  · exact Effects.retire k s _ len n hn (fun _ => Cpu.setFlags_f_low _ _) (by simp)
  · exact Effects.retireStore k s _ _ _ len n hn (fun _ => Cpu.setFlags_f_low _ _) (by simp)

theorem aluOpnd_effects (op : AluOp) (o : Opnd8) : Effects k s (aluOpnd op o s) := by
  cases o <;> exact Effects.retire k s _ _ _ (Nat.le_of_ble_eq_true rfl) (fun _ => Cpu.setAF_f_low _ _) (by simp)

theorem incOpnd_effects (o : Opnd8) : Effects k s (incOpnd o s) := by cases o <;> exact Effects.modify k s _ _ _ _ (Nat.le_of_ble_eq_true rfl)

theorem decOpnd_effects (o : Opnd8) : Effects k s (decOpnd o s) := by cases o <;> exact Effects.modify k s _ _ _ _ (Nat.le_of_ble_eq_true rfl)

theorem rotOpnd_effects (op : RotOp) (o : Opnd8) : Effects k s (rotOpnd op o s) := by
  cases o <;> exact Effects.modify k s _ _ _ _ (Nat.le_of_ble_eq_true rfl)

theorem bitOpnd_effects (b : Nat) (o : Opnd8) : Effects k s (bitOpnd b o s) := by
  cases o <;> exact Effects.retire k s _ _ _ (Nat.le_of_ble_eq_true rfl) (fun _ => Cpu.setFlags_f_low _ _) (by simp)

theorem resOpnd_effects (b : Nat) (o : Opnd8) : Effects k s (resOpnd b o s) := by
  cases o <;> exact Effects.put k s _ _ _ _ (Nat.le_of_ble_eq_true rfl)

theorem setOpnd_effects (b : Nat) (o : Opnd8) : Effects k s (setOpnd b o s) := by
  cases o <;> exact Effects.put k s _ _ _ _ (Nat.le_of_ble_eq_true rfl)

theorem onAcc_effects (f : Byte → Flags → Byte × Flags) : Effects k s (onAcc f s) :=
  Effects.retire k s _ _ _ (by decide) (fun _ => Cpu.setAF_f_low _ _) (by simp)

theorem withPush_effects {v : Word} {f : State → Result}
    (h : ∀ a b x y, Effects k s (f { busWrite (busWrite s a x) b y with cpu := { s.cpu with sp := s.cpu.sp - 2 } })) :
    Effects k s (withPush s v f) := by
  rcases withPush_cases s v f with ⟨_, e⟩ | ⟨_, e⟩ <;> rw [e]
  · trivial
  · exact h _ _ _ _

theorem push_effects (r : R16Stk) : Effects k s (push r s) :=
  withPush_effects k s (fun _ _ _ _ =>
    Effect.store2 (c := ({ s.cpu with sp := s.cpu.sp - 2, pc := s.cpu.pc + 1 } : Cpu).report 16) (Nat.le_of_ble_eq_true rfl) id (fun _ => rfl))

theorem callTo_effects (target ret : Word) (n : Nat) (hn : n ≤ 24) : Effects k s (callTo target ret n s) :=
  withPush_effects k s (fun _ _ _ _ =>
    Effect.store2 (c := ({ s.cpu with sp := s.cpu.sp - 2, pc := target } : Cpu).report n)
      (show n / 4 - 1 ≤ 5 by omega) id (fun _ => rfl))

omit k s in
/-- F after a pop: as it was, or a byte without its low nibble (R254). -/
theorem pop_f_low (c : Cpu) (r : R16Stk) (v : Word) (h : c.f &&& 0x0F = 0) : ((c.setStk r v).popped).f &&& 0x0F = 0 := by
  cases r
  case af => exact Cpu.setF_f_low { c with a := hiByte v } (loByte v)
  all_goals exact h

theorem pop_effects (r : R16Stk) : Effects k s (pop r s) :=
  withRead16_effects (fun v => Effects.retire k s _ _ _ (by decide)
    (pop_f_low s.cpu r v) (by simp))

theorem returnTo_effects (n : Nat) (hn : n ≤ 24) : Effects k s (returnTo n s) :=
  withRead16_effects (fun v => Effects.jump k s _ _ _ hn (by simp) (by simp))

theorem stSp_effects (w : Word) : Effects k s (stSp w s) := by
  unfold stSp
  by_cases h : w = 0xFFFF
  · subst h
    rw [memWrite16_fault]
    trivial
  · rw [memWrite16_ok s h, busWrite_self (busWrite s _ _), busWrite_cpu]
    exact Effect.store2 (c := ({ s.cpu with pc := s.cpu.pc + 3 } : Cpu).report 20) (Nat.le_of_ble_eq_true rfl) id (fun _ => rfl)

theorem whenCond_effects (cc : Cond) (len : Word) (n : Nat) (hn : n ≤ 24) {f : State → Result} (h : Effects k s (f s)) :
    Effects k s (whenCond cc len n f s) := by
  unfold whenCond
  split
  · exact h
  · exact Effects.retire k s s.cpu len n hn id (fun _ => rfl)

theorem ldATo_effects (m : R16Mem) : Effects k s (ldATo m s) := by
  unfold ldATo
  dsimp only
  rw [busWrite_cpu]
  exact Effects.retireStore k s _ _ _ _ _ (by decide) (by simp) (by simp)

end

/-! ## Every instruction -/

/-- The instructions that write IME (60_exceptions.md R506). -/
def writesIme (i : Instr) : Bool :=
  match i with
  | .di => true
  | .ei => true
  | .reti => true
  | _ => false

/-- The prefix row's meaning is the meaning of the instruction its second byte names (R445). -/
theorem prefixed_eq (op2 : Byte) (s : State) : prefixed op2 s = exec (decodePrefixed op2) s := by
  have hy : fieldY op2 < 8 := Nat.mod_lt _ (by decide)
  have hx : fieldX op2 < 4 := by
    have := op2.isLt
    unfold fieldX
    omega
  unfold prefixed decodePrefixed
  dsimp only
  generalize fieldX op2 = x at hx
  interval_cases x
  · exact (exec_rot _ _ s).symm
  · exact (exec_bitB hy _ s).symm
  · exact (exec_resB hy _ s).symm
  · exact (exec_setB hy _ s).symm

theorem prefixed_effects (k : Bool) (op2 : Byte) (s : State) : Effects k s (prefixed op2 s) := by
  unfold prefixed
  dsimp only
  split
  · exact rotOpnd_effects k s _ _
  · exact bitOpnd_effects k s _ _
  · exact resOpnd_effects k s _ _
  · exact setOpnd_effects k s _ _

/-- THE ONE LEMMA ABOUT `exec`: at most two bus writes, registers, no refusal; IME only by DI, EI and RETI. -/
theorem exec_effects (i : Instr) (s : State) : Effects (!writesIme i) s (exec i s) := by
  have keep : ∀ {k : Bool} (c : Cpu) (len : Word) (n : Nat), n ≤ 24 → (s.cpu.f &&& 0x0F = 0 → c.f &&& 0x0F = 0) →
      c.ime = s.cpu.ime → Effects k s (.next (({ s with cpu := c } : State).retire len n)) :=
    fun c len n hn hf hi => Effects.retire _ s c len n hn hf (fun _ => hi)
  cases isForm i with
  | ldReg dst src => rw [exec_ldReg]; exact keep _ _ _ (by decide) (by simp) (by simp)
  | ldFromHl dst => rw [exec_ldFromHl]; exact keep _ _ _ (by decide) (by simp) (by simp)
  | ldToHl r => rw [exec_ldToHl]; exact Effects.retireStoreOnly _ s _ _ _ _ (by decide)
  | ldRegImm dst n => rw [exec_ldRegImm]; exact keep _ _ _ (by decide) (by simp) (by simp)
  | ldAFrom m => rw [exec_ldAFrom]; exact keep _ _ _ (by decide) (by simp) (by simp)
  | ldATo m => rw [exec_ldATo]; exact ldATo_effects _ s m
  | ldPair r w => rw [exec_ldPair]; exact keep _ _ _ (by decide) (by simp) (by simp)
  | pushStk r => rw [exec_pushStk]; exact push_effects _ s r
  | popStk r => rw [exec_popStk]; exact pop_effects _ s r
  | alu op o => rw [exec_alu]; exact aluOpnd_effects _ s op o
  | aluD8 op n => rw [exec_aluD8]; exact keep _ _ _ (by decide) (fun _ => Cpu.setAF_f_low _ _) (by simp)
  | inc8 o => rw [exec_inc8]; exact incOpnd_effects _ s o
  | dec8 o => rw [exec_dec8]; exact decOpnd_effects _ s o
  | addHl r => rw [exec_addHl]; exact keep _ _ _ (by decide) (fun _ => Cpu.setFlags_f_low _ _) (by simp)
  | inc16 r => rw [exec_inc16]; exact keep _ _ _ (by decide) (by simp) (by simp)
  | dec16 r => rw [exec_dec16]; exact keep _ _ _ (by decide) (by simp) (by simp)
  | rot op o => rw [exec_rot]; exact rotOpnd_effects _ s op o
  | jrCc c e => rw [exec_jrCc]; exact whenCond_effects _ s c _ _ (by decide) (Effects.jump _ s s.cpu _ _ (by decide) id (fun _ => rfl))
  | jpCc c w => rw [exec_jpCc]; exact whenCond_effects _ s c _ _ (by decide) (Effects.jump _ s s.cpu _ _ (by decide) id (fun _ => rfl))
  | callCc c w => rw [exec_callCc]; exact whenCond_effects _ s c _ _ (by decide) (callTo_effects _ s _ _ _ (by decide))
  | retCc c => rw [exec_retCc]; exact whenCond_effects _ s c _ _ (by decide) (returnTo_effects _ s _ (by decide))
  | bitB b hb o => rw [exec_bitB hb]; exact bitOpnd_effects _ s b o
  | resB b hb o => rw [exec_resB hb]; exact resOpnd_effects _ s b o
  | setB b hb o => rw [exec_setB hb]; exact setOpnd_effects _ s b o
  | rst y hy => rw [exec_rst hy]; exact callTo_effects _ s _ _ _ (by decide)
  | nop => exact keep s.cpu _ _ (by decide) id rfl
  | rlca => exact onAcc_effects _ s _
  | rrca => exact onAcc_effects _ s _
  | rla => exact onAcc_effects _ s _
  | rra => exact onAcc_effects _ s _
  | daa => exact onAcc_effects _ s _
  | cpl => exact onAcc_effects _ s _
  | scf => exact keep _ _ _ (by decide) (fun _ => Cpu.setFlags_f_low _ _) (by simp)
  | ccf => exact keep _ _ _ (by decide) (fun _ => Cpu.setFlags_f_low _ _) (by simp)
  | ldIndA16Sp w => exact stSp_effects _ s w
  | stop ignored => trivial
  | jrE8 e => exact Effects.jump _ s s.cpu _ _ (by decide) id (fun _ => rfl)
  | ldIndHlD8 n => exact Effects.retireStoreOnly _ s _ _ _ _ (by decide)
  | halt => exact keep _ _ _ (by decide) id rfl
  | jpA16 w => exact Effects.jump _ s s.cpu _ _ (by decide) id (fun _ => rfl)
  | ret => exact returnTo_effects _ s _ (by decide)
  | prefixCb op2 => exact prefixed_effects _ op2 s
  | callA16 w => exact callTo_effects _ s _ _ _ (by decide)
  | reti => exact withRead16_effects (fun v => Effects.jump _ s _ _ _ (by decide) id (fun h => absurd h (by decide)))
  | ldhIndA8A n => exact Effects.retireStoreOnly _ s _ _ _ _ (by decide)
  | ldIndCA => exact Effects.retireStoreOnly _ s _ _ _ _ (by decide)
  | ldIndA16A w => exact Effects.retireStoreOnly _ s _ _ _ _ (by decide)
  | addSpE8 e => exact keep _ _ _ (by decide) (fun _ => Cpu.setFlags_f_low _ _) (by simp)
  | jpHl => exact Effects.jump _ s s.cpu _ _ (by decide) id (fun _ => rfl)
  | ldhAIndA8 n => exact keep _ _ _ (by decide) id rfl
  | ldAIndC => exact keep _ _ _ (by decide) id rfl
  | ldAIndA16 w => exact keep _ _ _ (by decide) id rfl
  | ldHlSpE8 e => exact keep _ _ _ (by decide) (fun _ => Cpu.setFlags_f_low _ _) (by simp)
  | ldSpHl => exact keep _ _ _ (by decide) id rfl
  | di => exact Effects.retire _ s _ _ _ (by decide) id (fun h => absurd h (by decide))
  | ei => exact Effects.retire _ s _ _ _ (by decide) id (fun h => absurd h (by decide))
  | illegalD3 => trivial
  | illegalDB => trivial
  | illegalDD => trivial
  | illegalE3 => trivial
  | illegalE4 => trivial
  | illegalEB => trivial
  | illegalEC => trivial
  | illegalED => trivial
  | illegalF4 => trivial
  | illegalFC => trivial
  | illegalFD => trivial

theorem exec_effect {i : Instr} {s t : State} (h : exec i s = .next t) : Effect (!writesIme i) s t := by
  have := exec_effects i s
  rwa [h] at this

/-- No instruction is refused: every one has its meaning. -/
theorem exec_not_refused (i : Instr) (s : State) (r : Refusal) : exec i s ≠ .refused r := by
  intro h
  have := exec_effects i s
  rw [h] at this
  exact this

/-! ## The invariant through an instruction -/

theorem State.Inv.withCpu {s : State} (h : s.Inv) {c : Cpu} (hc : c.Inv) : ({ s with cpu := c } : State).Inv := { h with cpu := hc }

theorem Stored.inv {s w : State} (h : s.Inv) (hw : Stored s w) : w.Inv := by
  cases hw with
  | none => exact h
  | one a v => exact busWrite_inv h a v
  | two a b v w => exact busWrite_inv (busWrite_inv h a v) b w

theorem Stored.untouched {s w : State} (hw : Stored s w) : Untouched s w := by
  cases hw with
  | none => exact .refl s
  | one a v => exact busWrite_untouched s a v
  | two a b v w => exact (busWrite_untouched s a v).trans (busWrite_untouched _ b w)

theorem Effect.inv {k : Bool} {s t : State} (h : s.Inv) (he : Effect k s t) : t.Inv :=
  State.Inv.withCpu (c := t.cpu) (Stored.inv h he.stored) ⟨he.f_low h.cpu.f_low, he.busy_le⟩

theorem exec_inv {i : Instr} {s t : State} (hs : s.Inv) (h : exec i s = .next t) : t.Inv := (exec_effect h).inv hs

end Sys2Proof.Machine
end

