-- ==== Sys2Proof/Laws/Frames.lean ====
section
/-! SUPPORT. Frames: a step that changes the CPU alone, and one or two bus writes under new registers (Safety.lean's `OnlyCpu`,
`StoresByte`, `StoresWord`). -/

namespace Sys2Proof.Machine

theorem OnlyCpu.withCpu (s : State) (c : Cpu) : OnlyCpu s { s with cpu := c } := ⟨rfl, fun a => busRead_withCpu s c a⟩

theorem OnlyCpu.retire (s : State) (c : Cpu) (len : Word) (n : Nat) : OnlyCpu s (({ s with cpu := c } : State).retire len n) :=
  OnlyCpu.withCpu s _

theorem OnlyCpu.jump (s : State) (c : Cpu) (a : Word) (n : Nat) : OnlyCpu s (({ s with cpu := c } : State).jump a n) :=
  OnlyCpu.withCpu s _

/-! ## One write -/

/-! A read after one array has changed, where the array reads the same at the address's place. -/

theorem busRead_setVram (s : State) (m : Memory) {b : Word}
    (h : regionOf b = .vram → m.read (b.toNat - 0x8000) = s.vram.read (b.toNat - 0x8000)) :
    busRead { s with vram := m } b = busRead s b := by
  unfold busRead busReadWith
  dsimp only
  cases hr : regionOf b
  case vram => dsimp only; rw [h hr]
  case io => dsimp only; cases ioRegAt (b.toNat - 0xFF00) <;> rfl
  all_goals rfl

theorem busRead_setOam (s : State) (m : Memory) {b : Word}
    (h : regionOf b = .oam → m.read (b.toNat - 0xFE00) = s.oam.read (b.toNat - 0xFE00)) :
    busRead { s with oam := m } b = busRead s b := by
  unfold busRead busReadWith
  dsimp only
  cases hr : regionOf b
  case oam => dsimp only; rw [h hr]
  case io => dsimp only; cases ioRegAt (b.toNat - 0xFF00) <;> rfl
  all_goals rfl

theorem busRead_setHram (s : State) (m : Memory) {b : Word}
    (h : regionOf b = .hram → m.read (b.toNat - 0xFF80) = s.hram.read (b.toNat - 0xFF80)) :
    busRead { s with hram := m } b = busRead s b := by
  unfold busRead busReadWith
  dsimp only
  cases hr : regionOf b
  case hram => dsimp only; rw [h hr]
  case io => dsimp only; cases ioRegAt (b.toNat - 0xFF00) <;> rfl
  all_goals rfl

theorem busRead_setWram (s : State) (m : Memory) {b : Word}
    (h : regionOf b = .wram0 ∨ regionOf b = .wram1 → m.read (b.toNat - 0xC000) = s.wram.read (b.toNat - 0xC000))
    (he : regionOf b = .echo → m.read (b.toNat - 0x2000 - 0xC000) = s.wram.read (b.toNat - 0x2000 - 0xC000)) :
    busRead { s with wram := m } b = busRead s b := by
  unfold busRead busReadWith
  dsimp only
  cases hr : regionOf b
  case wram0 => dsimp only; rw [h (.inl hr)]
  case wram1 => dsimp only; rw [h (.inr hr)]
  case echo => dsimp only; rw [he hr]
  case io => dsimp only; cases ioRegAt (b.toNat - 0xFF00) <;> rfl
  all_goals rfl

theorem busRead_setIe (s : State) (v : Byte) {b : Word}
    (h : regionOf b ≠ .ie) :
    busRead { s with ie := v } b = busRead s b := by
  unfold busRead busReadWith
  dsimp only
  cases hr : regionOf b
  case ie => exact absurd hr h
  case io => dsimp only; cases ioRegAt (b.toNat - 0xFF00) <;> rfl
  all_goals rfl

theorem busRead_setRam (s : State) (m : Memory) (o : Observed) {b : Word}
    (h : regionOf b = .cartRam → m.read (ramOffset s.cart s.mapper b.toNat) = s.mapper.ram.read (ramOffset s.cart s.mapper b.toNat)) :
    busRead { s with mapper := { s.mapper with ram := m }, out := o } b = busRead s b := by
  unfold busRead busReadWith
  dsimp only
  cases hr : regionOf b
  case cartRam =>
    show (if ramPresent s.cart s.mapper then m.read (ramOffset s.cart s.mapper b.toNat) else 0xFF) = _
    rw [h hr]
    rfl
  case io => dsimp only; cases ioRegAt (b.toNat - 0xFF00) <;> rfl
  all_goals rfl

/-- A store to a plain address changes no other byte but the echo of that one (R102, R114). -/
theorem busRead_busWrite_ne (s : State) {a b : Word} (v : Byte) (ha : PlainAddress a) (hb : b ≠ a) (he : ¬EchoTwin a b) :
    busRead (busWrite s a v) b = busRead s b := by
  have hne : b.toNat ≠ a.toNat := fun h => hb (BitVec.eq_of_toNat_eq h)
  have bounds : ∀ r, regionOf b = r → r.bounds.1 ≤ b.toNat ∧ b.toNat < r.bounds.2 := fun r h => regionOf_bounds h
  unfold PlainAddress at ha
  unfold EchoTwin at he
  unfold busWrite
  dsimp only
  cases hr : regionOf a
  all_goals
    have hn := regionOf_bounds hr
    simp only [Region.bounds] at hn
    dsimp only
  case rom0 => omega
  case romX => omega
  case io => omega
  case vram =>
    split
    · rfl
    · refine busRead_setVram s _ (fun h => Memory.read_write_ne _ _ ?_)
      have := bounds _ h
      simp only [Region.bounds] at this
      omega
  case oam =>
    split
    · rfl
    · refine busRead_setOam s _ (fun h => Memory.read_write_ne _ _ ?_)
      have := bounds _ h
      simp only [Region.bounds] at this
      omega
  case hram =>
    refine busRead_setHram s _ (fun h => Memory.read_write_ne _ _ ?_)
    have := bounds _ h
    simp only [Region.bounds] at this
    omega
  case ie =>
    refine busRead_setIe s _ (fun h => ?_)
    have := bounds _ h
    simp only [Region.bounds] at this
    omega
  case cartRam =>
    unfold cartRamWrite
    split
    · refine busRead_setRam s _ _ (fun h => Memory.read_write_ne _ _ ?_)
      have := bounds _ h
      simp only [Region.bounds] at this
      unfold ramOffset
      omega
    · rfl
  all_goals
    refine busRead_setWram s _ (fun h => Memory.read_write_ne _ _ ?_) (fun h => Memory.read_write_ne _ _ ?_)
    · rcases h with h | h
      all_goals
        have := bounds _ h
        simp only [Region.bounds] at this
        omega
    · have := bounds _ h
      simp only [Region.bounds] at this
      omega

/-- A store to a mapper or I/O register changes no byte array. -/
theorem busWrite_keepsArrays (s : State) {a : Word} (v : Byte) (ha : ¬PlainAddress a) : KeepsArrays s (busWrite s a v) := by
  have hlt := a.isLt
  unfold PlainAddress at ha
  unfold busWrite
  dsimp only
  cases hr : regionOf a
  all_goals
    have hn := regionOf_bounds hr
    simp only [Region.bounds] at hn
  case rom0 => exact ⟨rfl, rfl, rfl, rfl, rfl, mapperRegWrite_ram _ _ _ _, rfl⟩
  case romX => exact ⟨rfl, rfl, rfl, rfl, rfl, mapperRegWrite_ram _ _ _ _, rfl⟩
  case io =>
    dsimp only
    rw [ioWrite_eq]
    exact ⟨rfl, rfl, rfl, rfl, rfl, rfl, rfl⟩
  all_goals omega

theorem KeepsArrays.trans {s t u : State} (h : KeepsArrays s t) (k : KeepsArrays t u) : KeepsArrays s u := by
  obtain ⟨h1, h2, h3, h4, h5, h6, h7⟩ := h
  obtain ⟨k1, k2, k3, k4, k5, k6, k7⟩ := k
  exact ⟨k1.trans h1, k2.trans h2, k3.trans h3, k4.trans h4, k5.trans h5, k6.trans h6, k7.trans h7⟩

/-- A bus write under new registers is the store of one byte. -/
theorem StoresByte.busWrite (s : State) (a : Word) (v : Byte) (c : Cpu) : StoresByte s { busWrite s a v with cpu := c } a v := by
  refine ⟨?_, fun ha b hb he => ?_, fun ha => ?_⟩
  · show ({ Machine.busWrite s a v with cpu := s.cpu } : State) = _
    rw [← busWrite_self]
  · rw [busRead_withCpu, busRead_busWrite_ne s v ha hb he]
  · exact busWrite_keepsArrays s v ha

/-- Two bus writes under new registers are the store of a word. -/
theorem StoresWord.busWrite (s : State) (a v : Word) (c : Cpu) :
    StoresWord s { busWrite (busWrite s a (loByte v)) (a + 1) (hiByte v) with cpu := c } a v := by
  refine ⟨?_, fun ha ha' b hb hb' he he' => ?_, fun ha ha' => ?_⟩
  · show ({ Machine.busWrite (Machine.busWrite s a (loByte v)) (a + 1) (hiByte v) with cpu := s.cpu } : State) = _
    rw [← busWrite_withCpu, ← busWrite_self]
  · rw [busRead_withCpu, busRead_busWrite_ne _ _ ha' hb' he', busRead_busWrite_ne s _ ha hb he]
  · exact KeepsArrays.trans (busWrite_keepsArrays s _ ha) (busWrite_keepsArrays _ _ ha')

/-! ## Registers -/

theorem KeepsRegs.of_eq {s t : State} (h : ∀ r, t.cpu.get8 r = s.cpu.get8 r) (l : List R8) : KeepsRegs s t l := fun r _ => h r

theorem KeepsRegs.set8 {s t : State} {r : R8} {v : Byte} {c : Cpu} (hc : c = s.cpu.set8 r v) (ht : ∀ q, t.cpu.get8 q = c.get8 q) :
    KeepsRegs s t [r] := by
  intro q hq
  rw [ht, hc, Cpu.set8_get8_ne _ (by simpa using hq)]

/-- The two shapes of an operand write under new registers that keep what it wrote. -/
theorem WritesOperand.put (s : State) (o : Opnd8) (v : Byte) (f : Cpu → Cpu) (hf : ∀ c r, (f c).get8 r = c.get8 r) :
    WritesOperand s { s.putOpnd o v with cpu := f (s.putOpnd o v).cpu } o v := by
  cases o with
  | reg r =>
    refine ⟨?_, ?_, OnlyCpu.withCpu s _⟩
    · show (f (s.cpu.set8 r v)).get8 r = v
      rw [hf, Cpu.set8_get8_same]
    · exact KeepsRegs.set8 rfl (fun q => hf _ q)
  | indHl =>
    refine ⟨fun r _ => ?_, ?_⟩
    · show (f (Machine.busWrite s s.cpu.hl v).cpu).get8 r = _
      rw [busWrite_cpu, hf]
    · exact StoresByte.busWrite s s.cpu.hl v _

end Sys2Proof.Machine
end

