-- ==== Sys2Proof/Laws/Flags.lean ====
section
/-! SUPPORT. What each flag computation gives, said in numbers or bit by bit, and the whole result of each shared operation over
an operand. -/

namespace Sys2Proof.Machine

/-! ## 8-bit arithmetic (41_alu8.md) -/

theorem zero8_of_toNat {r : Byte} {n : Nat} (h : r.toNat = n) : zero8 r = decide (n = 0) := by
  unfold zero8
  rw [← h]
  exact decide_eq_decide.mpr ⟨fun e => by rw [e]; rfl, fun e => BitVec.eq_of_toNat_eq e⟩

/-- ADD and ADC (R281, R282). -/
theorem add8_spec (a b : Byte) (c : Bool) :
    (add8 a b c).1.toNat = (a.toNat + b.toNat + c.toNat) % 256 ∧
    (add8 a b c).2 = ⟨decide ((a.toNat + b.toNat + c.toNat) % 256 = 0), false,
      decide (16 ≤ a.toNat % 16 + b.toNat % 16 + c.toNat), decide (256 ≤ a.toNat + b.toNat + c.toNat)⟩ := by
  have h : (add8 a b c).1.toNat = (a.toNat + b.toNat + c.toNat) % 256 := by unfold add8; simp
  refine ⟨h, ?_⟩
  show (⟨zero8 (add8 a b c).1, _, _, _⟩ : Flags) = _
  rw [zero8_of_toNat h]
  rfl

/-- SUB, SBC and CP (R283, R284, R288). -/
theorem sub8_spec (a b : Byte) (c : Bool) :
    (sub8 a b c).1.toNat = (a.toNat + 512 - b.toNat - c.toNat) % 256 ∧
    (sub8 a b c).2 = ⟨decide ((a.toNat + 512 - b.toNat - c.toNat) % 256 = 0), true,
      decide (a.toNat % 16 < b.toNat % 16 + c.toNat), decide (a.toNat < b.toNat + c.toNat)⟩ := by
  have hb := b.isLt
  have hc : c.toNat ≤ 1 := by cases c <;> decide
  have h : (sub8 a b c).1.toNat = (a.toNat + 512 - b.toNat - c.toNat) % 256 := by
    unfold sub8
    simp only [BitVec.toNat_ofInt]
    omega
  refine ⟨h, ?_⟩
  show (⟨zero8 (sub8 a b c).1, _, _, _⟩ : Flags) = _
  rw [zero8_of_toNat h]

/-- INC (R289, R290). -/
theorem inc8_spec (b : Byte) (fl : Flags) :
    inc8 b fl = (BitVec.ofNat 8 (b.toNat + 1), ⟨decide (b.toNat = 255), false, decide (b.toNat % 16 = 15), fl.c⟩) := by
  have : ∀ (c : Bool) (b : Byte), inc8 b ⟨false, false, false, c⟩ =
      (BitVec.ofNat 8 (b.toNat + 1), ⟨decide (b.toNat = 255), false, decide (b.toNat % 16 = 15), c⟩) := by decide
  exact this fl.c b

/-- DEC (R291, R292). -/
theorem dec8_spec (b : Byte) (fl : Flags) :
    dec8 b fl = (BitVec.ofNat 8 (b.toNat + 255), ⟨decide (b.toNat = 1), true, decide (b.toNat % 16 = 0), fl.c⟩) := by
  have : ∀ (c : Bool) (b : Byte), dec8 b ⟨false, false, false, c⟩ =
      (BitVec.ofNat 8 (b.toNat + 255), ⟨decide (b.toNat = 1), true, decide (b.toNat % 16 = 0), c⟩) := by decide
  exact this fl.c b

/-- CPL's complement (R294). -/
theorem complement_toNat : ∀ a : Byte, (a ^^^ 0xFF).toNat = 255 - a.toNat := by decide

/-! ## 16-bit arithmetic (42_alu16.md) -/

/-- The sign extension of an offset byte, as a number. -/
theorem sext16_toNat (u : Byte) : (sext16 u).toNat = if u.toNat < 128 then u.toNat else u.toNat + 65536 - 256 := by
  revert u; decide

/-- SP plus a signed byte (R333, R334). -/
theorem addSp_toNat (s : Word) (u : Byte) :
    (addSp s u).1.toNat = (if u.toNat < 128 then s.toNat + u.toNat else s.toNat + 65536 + u.toNat - 256) % 65536 := by
  show (s + sext16 u).toNat = _
  rw [BitVec.toNat_add, sext16_toNat]
  split <;> omega

/-- The target of a relative jump (R404). -/
theorem relTarget_spec (pc : Word) (e : Byte) : relTarget pc e = BitVec.ofInt 16 (pc.toNat + 2 + e.toInt) := by
  apply BitVec.eq_of_toNat_eq
  have h2 : BitVec.toNat (2 : Word) = 2 := rfl
  have hp := pc.isLt
  have hl := e.isLt
  have hi := BitVec.toInt_eq_toNat_cond e
  unfold relTarget
  rw [BitVec.toNat_add, BitVec.toNat_add, sext16_toNat, BitVec.toNat_ofInt, hi, h2]
  simp only [Nat.reducePow]
  split <;> split <;> omega

/-! ## Rotates, shifts and bits (43_rotate_shift_bit.md) -/

/-- Bits of the values that rotates and shifts are built from. -/
theorem bit_shl (v : Byte) (k : Nat) (hk : k < 7) : bit (v <<< 1) (k + 1) = bit v k ∧ bit (v <<< 1) 0 = false := by
  refine ⟨?_, by simp [bit]⟩
  unfold bit
  rw [BitVec.getLsbD_shiftLeft]
  simp
  omega

theorem bit_shr (v : Byte) (k : Nat) : bit (v >>> 1) k = bit v (k + 1) := by
  unfold bit
  rw [BitVec.getLsbD_ushiftRight, Nat.add_comm]

theorem bit_flagBit (c : Bool) (n k : Nat) (hn : n < 8) (hk : k < 8) : bit (flagBit c n) k = (c && decide (k = n)) := by
  have : ∀ c : Bool, ∀ n, n < 8 → ∀ k, k < 8 → bit (flagBit c n) k = (c && decide (k = n)) := by decide
  exact this c n hn k hk

theorem bit_or (a b : Byte) (k : Nat) : bit (a ||| b) k = (bit a k || bit b k) := BitVec.getLsbD_or

theorem bit_and (a b : Byte) (k : Nat) : bit (a &&& b) k = (bit a k && bit b k) := BitVec.getLsbD_and

theorem bit_xor (a b : Byte) (k : Nat) : bit (a ^^^ b) k = (bit a k ^^ bit b k) := BitVec.getLsbD_xor

/-- Every rotate and shift bit by bit, and its carry (R365 to R372). -/
theorem rotate_spec (op : RotOp) (v : Byte) (c : Bool) :
    ((op = .rlc ∨ op = .rl ∨ op = .sla) → (∀ k, k < 7 → bit (rotate op v c).1 (k + 1) = bit v k) ∧
        bit (rotate op v c).1 0 = if op = .rlc then bit v 7 else if op = .rl then c else false) ∧
    (op = .swap → ∀ k, k < 8 → bit (rotate op v c).1 k = bit v ((k + 4) % 8)) ∧
    (¬(op = .rlc ∨ op = .rl ∨ op = .sla) ∧ op ≠ .swap → (∀ k, k < 7 → bit (rotate op v c).1 k = bit v (k + 1)) ∧
        bit (rotate op v c).1 7 = if op = .rrc then bit v 0 else if op = .rr then c else if op = .sra then bit v 7 else false) ∧
    (rotate op v c).2 = if op = .swap then false else if (op = .rlc ∨ op = .rl ∨ op = .sla) then bit v 7 else bit v 0 := by
  revert v c
  cases op <;> decide +kernel

/-- RES and SET bit by bit (R374, R375). -/
theorem bitReset_bitSet_spec (v : Byte) (b : Nat) (hb : b < 8) (k : Nat) (hk : k < 8) :
    bit (bitReset b v) k = (bit v k && decide (k ≠ b)) ∧ bit (bitSet b v) k = (bit v k || decide (k = b)) := by
  have mask : ∀ b, b < 8 → ∀ k, k < 8 → ((0xFF : Byte) ^^^ ((1 : Byte) <<< b)).getLsbD k = decide (k ≠ b) ∧
      ((1 : Byte) <<< b).getLsbD k = decide (k = b) := by decide
  obtain ⟨m1, m2⟩ := mask b hb k hk
  unfold bit bitReset bitSet
  rw [BitVec.getLsbD_and, BitVec.getLsbD_or, m1, m2]
  exact ⟨rfl, rfl⟩

/-! ## Whole results -/

section
variable (s : State)

omit s in
theorem report_reported {n : Nat} (hn : n % 4 = 0) (h4 : 4 ≤ n) : (n / 4 - 1 + 1) * 4 = n := by omega

omit s in
/-- A condition, as the flags it tests (R400). -/
theorem holds_iff (k : Cond) (c : Cpu) : c.holds k = true ↔ k.test c.flags.z c.flags.c := by cases k <;> simp [Cpu.holds, Cond.test]

/-- A conditional transfer is its transfer, or passes the instruction (R400). -/
theorem whenCond_cases (k : Cond) (len : Word) (n : Nat) (taken : State → Result) :
    (k.test s.cpu.flags.z s.cpu.flags.c ∧ whenCond k len n taken s = taken s) ∨
    (¬k.test s.cpu.flags.z s.cpu.flags.c ∧ whenCond k len n taken s = .next (s.retire len n)) := by
  unfold whenCond
  by_cases h : s.cpu.holds k = true
  · rw [if_pos h]; exact .inl ⟨(holds_iff k _).mp h, rfl⟩
  · rw [if_neg h]; exact .inr ⟨fun c => h ((holds_iff k _).mpr c), rfl⟩

/-- All that a read-modify-write of an operand and the flags does. -/
theorem modify_result (o : Opnd8) (x : Byte × Flags) (len : Word) {n : Nat} (hn : n % 4 = 0) (h4 : 4 ≤ n) :
    let t := (s.modify o x).retire len n
    WritesOperand s t o x.1 ∧ HasFlags t x.2.z x.2.n x.2.h x.2.c ∧ t.cpu.sp = s.cpu.sp ∧ Passes s t len n := by
  refine ⟨?_, ⟨by simp [State.modify], Cpu.setFlags_f_low (s.putOpnd o x.1).cpu x.2⟩, ?_, ?_⟩
  · exact WritesOperand.put s o x.1 (fun c => ({ c.setFlags x.2 with pc := (c.setFlags x.2).pc + len } : Cpu).report n)
      (fun c r => by cases r <;> rfl)
  · cases o <;> simp [State.modify, State.putOpnd]
  · cases o <;> refine ⟨?_, ?_, ?_, ?_⟩ <;> simp [State.modify, State.putOpnd, State.reported] <;> omega

/-- All that a write of an operand does. -/
theorem put_result (o : Opnd8) (x : Byte) (len : Word) {n : Nat} (hn : n % 4 = 0) (h4 : 4 ≤ n) :
    let t := (s.putOpnd o x).retire len n
    WritesOperand s t o x ∧ t.cpu.f = s.cpu.f ∧ t.cpu.sp = s.cpu.sp ∧ Passes s t len n := by
  refine ⟨?_, ?_, ?_, ?_⟩
  · exact WritesOperand.put s o x (fun c => ({ c with pc := c.pc + len } : Cpu).report n) (fun c r => by cases r <;> rfl)
  · cases o <;> simp [State.putOpnd]
  · cases o <;> simp [State.putOpnd]
  · cases o <;> refine ⟨?_, ?_, ?_, ?_⟩ <;> simp [State.putOpnd, State.reported] <;> omega

omit s in
@[simp] theorem prefixedCycles_reg (r : R8) : prefixedCycles (.reg r) = 8 := rfl

omit s in
@[simp] theorem prefixedCycles_indHl : prefixedCycles .indHl = 16 := rfl

omit s in
/-- SP - 2 is the last address exactly when SP is 1 (R106). -/
theorem sub_two_eq_last (w : Word) : w - 2 = 0xFFFF ↔ w = 1 := by
  constructor
  · intro h; have := congrArg (· + 2) h; simpa using this
  · rintro rfl; rfl

/-- All that a call does, and when it faults (R106, R252, R406, R410). -/
theorem callTo_result (ret target : Word) {n : Nat} (hn : n % 4 = 0) (h4 : 4 ≤ n) :
    (s.cpu.sp ≠ 0x0001 → ∃ t, callTo target ret n s = .next t ∧ StoresWord s t (s.cpu.sp - 2) ret ∧ t.cpu.sp = s.cpu.sp - 2 ∧
      JumpsTo s t target n ∧ KeepsRegs s t [] ∧ t.cpu.f = s.cpu.f) ∧
    (s.cpu.sp = 0x0001 → callTo target ret n s = .fault (.wrapAccess16 0xFFFF s.cpu.pc)) := by
  constructor <;> intro h <;> rcases withPush_cases s ret (fun t => .next (t.jump target n)) with ⟨e, e'⟩ | ⟨e, e'⟩
  · exact absurd ((sub_two_eq_last _).mp e) h
  · refine ⟨_, e', ?_, rfl, ⟨rfl, report_reported hn h4, rfl, rfl⟩, fun r _ => by cases r <;> rfl, rfl⟩
    exact StoresWord.busWrite s (s.cpu.sp - 2) ret (({ s.cpu with sp := s.cpu.sp - 2, pc := target } : Cpu).report n)
  · exact e'
  · exact absurd ((sub_two_eq_last _).mpr h) e

/-- All that a return does, and when it faults (R106, R252, R408). -/
theorem returnTo_result {n : Nat} (hn : n % 4 = 0) (h4 : 4 ≤ n) :
    (s.cpu.sp ≠ 0xFFFF → ∃ t, returnTo n s = .next t ∧
      JumpsTo s t (pairOf (busRead s (s.cpu.sp + 1)) (busRead s s.cpu.sp)) n ∧ t.cpu.sp = s.cpu.sp + 2 ∧ KeepsRegs s t [] ∧
      t.cpu.f = s.cpu.f ∧ OnlyCpu s t) ∧
    (s.cpu.sp = 0xFFFF → returnTo n s = .fault (.wrapAccess16 0xFFFF s.cpu.pc)) := by
  constructor <;> intro h <;>
    rcases withRead16_cases s s.cpu.sp (fun v => .next (({ s with cpu := s.cpu.popped } : State).jump v n)) with ⟨e, e'⟩ | ⟨e, e'⟩
  · exact absurd e h
  · exact ⟨_, e', ⟨rfl, report_reported hn h4, rfl, rfl⟩, rfl, fun r _ => by cases r <;> rfl, rfl, OnlyCpu.jump s _ _ _⟩
  · exact e'
  · exact absurd h e

end

end Sys2Proof.Machine
end

