-- ==== Sys2Proof/Laws/Step.lean ====
section
/-! SUPPORT. The step, part by part: fetch, the CPU's part of an M-cycle, interrupt entry, the devices. -/

namespace Sys2Proof.Machine

/-! ## Fetch (30_encoding.md R190) -/

/-- The bytes at the pc decode, and the two operand bytes do not wrap: the fetch gives the instruction. -/
theorem fetch_of_decode {s : State} {i : Instr} {rest : List Byte}
    (h : decode [busRead s s.cpu.pc, busRead s (s.cpu.pc + 1), busRead s (s.cpu.pc + 2)] = .ok (i, rest))
    (hw : s.cpu.pc = 0xFFFE → rest ≠ []) : fetch s = .ok i := by
  unfold fetch
  rcases decode_cases h with ⟨op, e, d⟩ | ⟨op, n, k, e, d, rfl⟩ | ⟨op, lo, hi, k, e, d, rfl⟩ | ⟨op, n, e, d, rfl⟩
  all_goals injection e with e0 e1; subst e0; rw [d]
  · injection e1 with e1 e2; subst e1; rfl
  · injection e1 with e1 e2
    injection e2 with e2 e3
    subst e1 e2 e3
    have hp : s.cpu.pc + 1 ≠ 0xFFFF := by
      intro hp
      refine hw ?_ rfl
      have : s.cpu.pc + 1 - 1 = 0xFFFF - 1 := by rw [hp]
      simpa using this
    dsimp only
    rw [memRead16_ok s hp, BitVec.add_assoc]
    rfl
  · injection e1 with e1 e2; subst e1; rfl

/-- A 16-bit operand that starts at 0xFFFF faults (R106). -/
theorem fetch_wrap {s : State} {k : Word → Instr} (h : decodeOpcode (busRead s s.cpu.pc) = .word k) (hp : s.cpu.pc = 0xFFFE) :
    fetch s = .error (.wrapAccess16 0xFFFF 0xFFFE) := by
  unfold fetch
  rw [h, hp]
  dsimp only
  rw [show (0xFFFE : Word) + 1 = 0xFFFF from rfl, memRead16_fault, hp]

/-! ## The CPU's part of an M-cycle (60_exceptions.md R520, R505) -/

theorem cpuMcycle_busy {s : State} {n : Nat} (h : s.cpu.busy = n + 1) :
    cpuMcycle s = .next { s with cpu := { s.cpu with busy := n } } := by
  unfold cpuMcycle
  rw [if_pos (by omega), h]
  rfl

theorem cpuMcycle_asleep {s : State} (hb : s.cpu.busy = 0) (hh : s.cpu.halted = true) (hw : wakes s = false) :
    cpuMcycle s = .next s := by
  unfold cpuMcycle
  rw [if_neg (by omega), if_pos ⟨hh, hw⟩]

theorem cpuMcycle_awake {s : State} (hb : s.cpu.busy = 0) (hw : s.cpu.halted = true → wakes s = true) :
    cpuMcycle s = cpuStep { s with cpu := { s.cpu with halted := false } } := by
  unfold cpuMcycle
  rw [if_neg (by omega), if_neg]
  rintro ⟨hh, hn⟩
  rw [hw hh] at hn
  cases hn

theorem cpuMcycle_boundary {s : State} (h : AtBoundary s) : cpuMcycle s = cpuStep s := by
  obtain ⟨_, hb, hh⟩ := h
  rw [cpuMcycle_awake hb (fun e => by rw [hh] at e; cases e)]
  congr 1
  rw [← hh]

theorem handleInterrupt_none {s : State} (h : Undisturbed s) : handleInterrupt s = none := by
  unfold handleInterrupt
  rw [if_neg]
  rintro ⟨he, hp⟩
  rcases h with h | h
  · exact h he
  · exact hp h

/-- Interrupt entry answers the fault of R106, or its push under new registers (R503). -/
theorem enterInterrupt_cases (n : Nat) (s : State) :
    (s.cpu.sp - 2 = 0xFFFF ∧ enterInterrupt n s = .fault (.wrapAccess16 0xFFFF s.cpu.pc)) ∨
    (s.cpu.sp - 2 ≠ 0xFFFF ∧ enterInterrupt n s = .next
      { busWrite (busWrite { s with ifReg := s.ifReg &&& ~~~((1 : Byte) <<< n) } (s.cpu.sp - 2) (loByte s.cpu.pc))
          (s.cpu.sp - 2 + 1) (hiByte s.cpu.pc) with
        cpu := ({ s.cpu with ime := .disabled, sp := s.cpu.sp - 2, pc := vectorOf n } : Cpu).report 20 }) := by
  unfold enterInterrupt
  rcases withPush_cases { s with ifReg := s.ifReg &&& ~~~((1 : Byte) <<< n), cpu := { s.cpu with ime := .disabled } } s.cpu.pc
    (fun u => .next (u.jump (vectorOf n) 20)) with ⟨e, e'⟩ | ⟨e, e'⟩
  · exact .inl ⟨e, e'⟩
  · refine .inr ⟨e, e'.trans ?_⟩
    have w := busWrite_withCpu { s with ifReg := s.ifReg &&& ~~~((1 : Byte) <<< n) } { s.cpu with ime := .disabled } (s.cpu.sp - 2)
      (loByte s.cpu.pc)
    dsimp only at w ⊢
    rw [w, busWrite_withCpu]
    rfl

theorem enterInterrupt_inv {n : Nat} {s t : State} (h : s.Inv) (e : enterInterrupt n s = .next t) : t.Inv := by
  rcases enterInterrupt_cases n s with ⟨_, c⟩ | ⟨_, c⟩ <;> rw [c] at e <;> cases e
  have hu : ({ s with ifReg := s.ifReg &&& ~~~((1 : Byte) <<< n) } : State).Inv := { h with if_bits := and_mask_zero _ h.if_bits }
  exact { busWrite_inv (busWrite_inv hu _ _) _ _ with cpu := ⟨h.cpu.f_low, Nat.le_of_ble_eq_true rfl⟩ }

/-! ## The devices' part (20_memory.md R130) -/

theorem devices_inv {s : State} (h : s.Inv) : (devices s).Inv :=
  joypadMcycle_inv (serialMcycle_inv (timerMcycle_inv (apuMcycle_inv
    (ppuDot_inv (ppuDot_inv (ppuDot_inv (ppuDot_inv h)))))))

/-- The fields no device writes. -/
structure DevicesKeep (s t : State) : Prop where
  cpu : t.cpu = s.cpu
  fault : t.fault = s.fault
  ie : t.ie = s.ie
  mapper : t.mapper = s.mapper
  cart : t.cart = s.cart
  vram : t.vram = s.vram
  wram : t.wram = s.wram
  hram : t.hram = s.hram
  params : t.params = s.params

theorem DevicesKeep.trans {s t u : State} (h : DevicesKeep s t) (k : DevicesKeep t u) : DevicesKeep s u :=
  ⟨k.cpu.trans h.cpu, k.fault.trans h.fault, k.ie.trans h.ie, k.mapper.trans h.mapper, k.cart.trans h.cart,
    k.vram.trans h.vram, k.wram.trans h.wram, k.hram.trans h.hram, k.params.trans h.params⟩

theorem ppuDot_keeps (s : State) : DevicesKeep s (ppuDot s) := by
  rw [ppuDot_eq]; exact ⟨rfl, rfl, rfl, rfl, rfl, rfl, rfl, rfl, rfl⟩

theorem devices_keep (s : State) : DevicesKeep s (devices s) := by
  unfold devices
  refine .trans (.trans (.trans (.trans (ppuDot_keeps s) (ppuDot_keeps _)) (ppuDot_keeps _)) (ppuDot_keeps _)) ?_
  generalize ppuDot (ppuDot (ppuDot (ppuDot s))) = s
  rw [joypadMcycle_eq, serialMcycle_eq, timerMcycle_eq, apuMcycle_eq]
  exact ⟨rfl, rfl, rfl, rfl, rfl, rfl, rfl, rfl, rfl⟩

end Sys2Proof.Machine
end

