-- ==== Sys2Proof/Tests/Slice0.lean ====
section
/-! SUPPORT. Tests. Expected values come from the spec: the encodings of opcode_table.json bit by bit, the vectors of
95_test_vectors.md, and hand calculation from the rules; then a witness for every statement with hypotheses. -/

open Sys2Proof Sys2Proof.Machine

namespace Sys2Proof.Tests

/-! ## WellFormed: the one check, and a term it refuses -/

theorem test_wellFormed_refuses_the_prefix_row : (Instr.prefixCb 0x37).wellFormed = false := by decide

theorem test_wellFormed_accepts_the_prefixed_instruction : Instr.swapA.wellFormed = true := by decide

/-! ## Decoding: every row of the table, its bytes written out bit by bit from the table's encoding -/

/-- The bytes of a row decode to the instruction, with nothing left, and encode back to the bytes. -/
def reads (r : List Byte × Instr) : Bool :=
  (match decode r.1 with
    | .ok (i, rest) => decide (i = r.2) && rest.isEmpty
    | .error _ => false) && decide (encode r.2 = r.1)

def rowsSystem0 : List (List Byte × Instr) :=
  [([0b00000000], .nop), ([0b00010000, 0x9A], .stop 0x9A), ([0b01110110], .halt), ([0b11010011], .illegalD3),
   ([0b11011011], .illegalDB), ([0b11011101], .illegalDD), ([0b11100011], .illegalE3), ([0b11100100], .illegalE4),
   ([0b11101011], .illegalEB), ([0b11101100], .illegalEC), ([0b11101101], .illegalED), ([0b11110011], .di),
   ([0b11110100], .illegalF4), ([0b11111011], .ei), ([0b11111100], .illegalFC), ([0b11111101], .illegalFD)]

theorem test_decode_system : (rowsSystem0).all reads = true := by decide +kernel

def rowsLoads0 : List (List Byte × Instr) :=
  [([0b00000001, 0x34, 0x12], .ldBcD16 0x1234), ([0b00000010], .ldIndBcA), ([0b00000110, 0x9A], .ldBD8 0x9A),
   ([0b00001000, 0x34, 0x12], .ldIndA16Sp 0x1234), ([0b00001010], .ldAIndBc), ([0b00001110, 0x9A], .ldCD8 0x9A),
   ([0b00010001, 0x34, 0x12], .ldDeD16 0x1234), ([0b00010010], .ldIndDeA), ([0b00010110, 0x9A], .ldDD8 0x9A),
   ([0b00011010], .ldAIndDe), ([0b00011110, 0x9A], .ldED8 0x9A), ([0b00100001, 0x34, 0x12], .ldHlD16 0x1234),
   ([0b00100010], .ldIndHlIncA), ([0b00100110, 0x9A], .ldHD8 0x9A), ([0b00101010], .ldAIndHlInc),
   ([0b00101110, 0x9A], .ldLD8 0x9A), ([0b00110001, 0x34, 0x12], .ldSpD16 0x1234), ([0b00110010], .ldIndHlDecA),
   ([0b00110110, 0x9A], .ldIndHlD8 0x9A), ([0b00111010], .ldAIndHlDec), ([0b00111110, 0x9A], .ldAD8 0x9A),
   ([0b01000000], .ldBB), ([0b01000001], .ldBC), ([0b01000010], .ldBD), ([0b01000011], .ldBE), ([0b01000100], .ldBH),
   ([0b01000101], .ldBL), ([0b01000110], .ldBIndHl), ([0b01000111], .ldBA), ([0b01001000], .ldCB), ([0b01001001], .ldCC),
   ([0b01001010], .ldCD)]

def rowsLoads1 : List (List Byte × Instr) :=
  [([0b01001011], .ldCE), ([0b01001100], .ldCH), ([0b01001101], .ldCL), ([0b01001110], .ldCIndHl), ([0b01001111], .ldCA),
   ([0b01010000], .ldDB), ([0b01010001], .ldDC), ([0b01010010], .ldDD), ([0b01010011], .ldDE), ([0b01010100], .ldDH),
   ([0b01010101], .ldDL), ([0b01010110], .ldDIndHl), ([0b01010111], .ldDA), ([0b01011000], .ldEB), ([0b01011001], .ldEC),
   ([0b01011010], .ldED), ([0b01011011], .ldEE), ([0b01011100], .ldEH), ([0b01011101], .ldEL), ([0b01011110], .ldEIndHl),
   ([0b01011111], .ldEA), ([0b01100000], .ldHB), ([0b01100001], .ldHC), ([0b01100010], .ldHD), ([0b01100011], .ldHE),
   ([0b01100100], .ldHH), ([0b01100101], .ldHL), ([0b01100110], .ldHIndHl), ([0b01100111], .ldHA), ([0b01101000], .ldLB),
   ([0b01101001], .ldLC), ([0b01101010], .ldLD)]

def rowsLoads2 : List (List Byte × Instr) :=
  [([0b01101011], .ldLE), ([0b01101100], .ldLH), ([0b01101101], .ldLL), ([0b01101110], .ldLIndHl), ([0b01101111], .ldLA),
   ([0b01110000], .ldIndHlB), ([0b01110001], .ldIndHlC), ([0b01110010], .ldIndHlD), ([0b01110011], .ldIndHlE),
   ([0b01110100], .ldIndHlH), ([0b01110101], .ldIndHlL), ([0b01110111], .ldIndHlA), ([0b01111000], .ldAB),
   ([0b01111001], .ldAC), ([0b01111010], .ldAD), ([0b01111011], .ldAE), ([0b01111100], .ldAH), ([0b01111101], .ldAL),
   ([0b01111110], .ldAIndHl), ([0b01111111], .ldAA), ([0b11000001], .popBc), ([0b11000101], .pushBc), ([0b11010001], .popDe),
   ([0b11010101], .pushDe), ([0b11100000, 0x9A], .ldhIndA8A 0x9A), ([0b11100001], .popHl), ([0b11100010], .ldIndCA),
   ([0b11100101], .pushHl), ([0b11101010, 0x34, 0x12], .ldIndA16A 0x1234), ([0b11110000, 0x9A], .ldhAIndA8 0x9A),
   ([0b11110001], .popAf), ([0b11110010], .ldAIndC)]

def rowsLoads3 : List (List Byte × Instr) :=
  [([0b11110101], .pushAf), ([0b11111001], .ldSpHl), ([0b11111010, 0x34, 0x12], .ldAIndA16 0x1234)]

theorem test_decode_loads : (rowsLoads0 ++ rowsLoads1 ++ rowsLoads2 ++ rowsLoads3).all reads = true := by decide +kernel

def rowsAlu160 : List (List Byte × Instr) :=
  [([0b00000011], .incBc), ([0b00001001], .addHlBc), ([0b00001011], .decBc), ([0b00010011], .incDe),
   ([0b00011001], .addHlDe), ([0b00011011], .decDe), ([0b00100011], .incHl), ([0b00101001], .addHlHl),
   ([0b00101011], .decHl), ([0b00110011], .incSp), ([0b00111001], .addHlSp), ([0b00111011], .decSp),
   ([0b11101000, 0x9A], .addSpE8 0x9A), ([0b11111000, 0x9A], .ldHlSpE8 0x9A)]

theorem test_decode_alu16 : (rowsAlu160).all reads = true := by decide +kernel

def rowsAlu80 : List (List Byte × Instr) :=
  [([0b00000100], .incB), ([0b00000101], .decB), ([0b00001100], .incC), ([0b00001101], .decC), ([0b00010100], .incD),
   ([0b00010101], .decD), ([0b00011100], .incE), ([0b00011101], .decE), ([0b00100100], .incH), ([0b00100101], .decH),
   ([0b00100111], .daa), ([0b00101100], .incL), ([0b00101101], .decL), ([0b00101111], .cpl), ([0b00110100], .incIndHl),
   ([0b00110101], .decIndHl), ([0b00110111], .scf), ([0b00111100], .incA), ([0b00111101], .decA), ([0b00111111], .ccf),
   ([0b10000000], .addAB), ([0b10000001], .addAC), ([0b10000010], .addAD), ([0b10000011], .addAE), ([0b10000100], .addAH),
   ([0b10000101], .addAL), ([0b10000110], .addAIndHl), ([0b10000111], .addAA), ([0b10001000], .adcAB),
   ([0b10001001], .adcAC), ([0b10001010], .adcAD), ([0b10001011], .adcAE)]

def rowsAlu81 : List (List Byte × Instr) :=
  [([0b10001100], .adcAH), ([0b10001101], .adcAL), ([0b10001110], .adcAIndHl), ([0b10001111], .adcAA),
   ([0b10010000], .subAB), ([0b10010001], .subAC), ([0b10010010], .subAD), ([0b10010011], .subAE), ([0b10010100], .subAH),
   ([0b10010101], .subAL), ([0b10010110], .subAIndHl), ([0b10010111], .subAA), ([0b10011000], .sbcAB),
   ([0b10011001], .sbcAC), ([0b10011010], .sbcAD), ([0b10011011], .sbcAE), ([0b10011100], .sbcAH), ([0b10011101], .sbcAL),
   ([0b10011110], .sbcAIndHl), ([0b10011111], .sbcAA), ([0b10100000], .andAB), ([0b10100001], .andAC),
   ([0b10100010], .andAD), ([0b10100011], .andAE), ([0b10100100], .andAH), ([0b10100101], .andAL),
   ([0b10100110], .andAIndHl), ([0b10100111], .andAA), ([0b10101000], .xorAB), ([0b10101001], .xorAC),
   ([0b10101010], .xorAD), ([0b10101011], .xorAE)]

def rowsAlu82 : List (List Byte × Instr) :=
  [([0b10101100], .xorAH), ([0b10101101], .xorAL), ([0b10101110], .xorAIndHl), ([0b10101111], .xorAA), ([0b10110000], .orAB),
   ([0b10110001], .orAC), ([0b10110010], .orAD), ([0b10110011], .orAE), ([0b10110100], .orAH), ([0b10110101], .orAL),
   ([0b10110110], .orAIndHl), ([0b10110111], .orAA), ([0b10111000], .cpAB), ([0b10111001], .cpAC), ([0b10111010], .cpAD),
   ([0b10111011], .cpAE), ([0b10111100], .cpAH), ([0b10111101], .cpAL), ([0b10111110], .cpAIndHl), ([0b10111111], .cpAA),
   ([0b11000110, 0x9A], .addAD8 0x9A), ([0b11001110, 0x9A], .adcAD8 0x9A), ([0b11010110, 0x9A], .subAD8 0x9A),
   ([0b11011110, 0x9A], .sbcAD8 0x9A), ([0b11100110, 0x9A], .andAD8 0x9A), ([0b11101110, 0x9A], .xorAD8 0x9A),
   ([0b11110110, 0x9A], .orAD8 0x9A), ([0b11111110, 0x9A], .cpAD8 0x9A)]

theorem test_decode_alu8 : (rowsAlu80 ++ rowsAlu81 ++ rowsAlu82).all reads = true := by decide +kernel

def rowsBits0 : List (List Byte × Instr) :=
  [([0b00000111], .rlca), ([0b00001111], .rrca), ([0b00010111], .rla), ([0b00011111], .rra)]

theorem test_decode_bits : (rowsBits0).all reads = true := by decide +kernel

def rowsControl0 : List (List Byte × Instr) :=
  [([0b00011000, 0x9A], .jrE8 0x9A), ([0b00100000, 0x9A], .jrNzE8 0x9A), ([0b00101000, 0x9A], .jrZE8 0x9A),
   ([0b00110000, 0x9A], .jrNcE8 0x9A), ([0b00111000, 0x9A], .jrCE8 0x9A), ([0b11000000], .retNz),
   ([0b11000010, 0x34, 0x12], .jpNzA16 0x1234), ([0b11000011, 0x34, 0x12], .jpA16 0x1234),
   ([0b11000100, 0x34, 0x12], .callNzA16 0x1234), ([0b11000111], .rst00), ([0b11001000], .retZ), ([0b11001001], .ret),
   ([0b11001010, 0x34, 0x12], .jpZA16 0x1234), ([0b11001100, 0x34, 0x12], .callZA16 0x1234),
   ([0b11001101, 0x34, 0x12], .callA16 0x1234), ([0b11001111], .rst08), ([0b11010000], .retNc),
   ([0b11010010, 0x34, 0x12], .jpNcA16 0x1234), ([0b11010100, 0x34, 0x12], .callNcA16 0x1234), ([0b11010111], .rst10),
   ([0b11011000], .retC), ([0b11011001], .reti), ([0b11011010, 0x34, 0x12], .jpCA16 0x1234),
   ([0b11011100, 0x34, 0x12], .callCA16 0x1234), ([0b11011111], .rst18), ([0b11100111], .rst20), ([0b11101001], .jpHl),
   ([0b11101111], .rst28), ([0b11110111], .rst30), ([0b11111111], .rst38)]

theorem test_decode_control : (rowsControl0).all reads = true := by decide +kernel

def rowsPrefixed0 : List (List Byte × Instr) :=
  [([0b11001011, 0b00000000], .rlcB), ([0b11001011, 0b00000001], .rlcC), ([0b11001011, 0b00000010], .rlcD),
   ([0b11001011, 0b00000011], .rlcE), ([0b11001011, 0b00000100], .rlcH), ([0b11001011, 0b00000101], .rlcL),
   ([0b11001011, 0b00000110], .rlcIndHl), ([0b11001011, 0b00000111], .rlcA), ([0b11001011, 0b00001000], .rrcB),
   ([0b11001011, 0b00001001], .rrcC), ([0b11001011, 0b00001010], .rrcD), ([0b11001011, 0b00001011], .rrcE),
   ([0b11001011, 0b00001100], .rrcH), ([0b11001011, 0b00001101], .rrcL), ([0b11001011, 0b00001110], .rrcIndHl),
   ([0b11001011, 0b00001111], .rrcA), ([0b11001011, 0b00010000], .rlB), ([0b11001011, 0b00010001], .rlC),
   ([0b11001011, 0b00010010], .rlD), ([0b11001011, 0b00010011], .rlE), ([0b11001011, 0b00010100], .rlH),
   ([0b11001011, 0b00010101], .rlL), ([0b11001011, 0b00010110], .rlIndHl), ([0b11001011, 0b00010111], .rlA),
   ([0b11001011, 0b00011000], .rrB), ([0b11001011, 0b00011001], .rrC), ([0b11001011, 0b00011010], .rrD),
   ([0b11001011, 0b00011011], .rrE), ([0b11001011, 0b00011100], .rrH), ([0b11001011, 0b00011101], .rrL),
   ([0b11001011, 0b00011110], .rrIndHl), ([0b11001011, 0b00011111], .rrA)]

def rowsPrefixed1 : List (List Byte × Instr) :=
  [([0b11001011, 0b00100000], .slaB), ([0b11001011, 0b00100001], .slaC), ([0b11001011, 0b00100010], .slaD),
   ([0b11001011, 0b00100011], .slaE), ([0b11001011, 0b00100100], .slaH), ([0b11001011, 0b00100101], .slaL),
   ([0b11001011, 0b00100110], .slaIndHl), ([0b11001011, 0b00100111], .slaA), ([0b11001011, 0b00101000], .sraB),
   ([0b11001011, 0b00101001], .sraC), ([0b11001011, 0b00101010], .sraD), ([0b11001011, 0b00101011], .sraE),
   ([0b11001011, 0b00101100], .sraH), ([0b11001011, 0b00101101], .sraL), ([0b11001011, 0b00101110], .sraIndHl),
   ([0b11001011, 0b00101111], .sraA), ([0b11001011, 0b00110000], .swapB), ([0b11001011, 0b00110001], .swapC),
   ([0b11001011, 0b00110010], .swapD), ([0b11001011, 0b00110011], .swapE), ([0b11001011, 0b00110100], .swapH),
   ([0b11001011, 0b00110101], .swapL), ([0b11001011, 0b00110110], .swapIndHl), ([0b11001011, 0b00110111], .swapA),
   ([0b11001011, 0b00111000], .srlB), ([0b11001011, 0b00111001], .srlC), ([0b11001011, 0b00111010], .srlD),
   ([0b11001011, 0b00111011], .srlE), ([0b11001011, 0b00111100], .srlH), ([0b11001011, 0b00111101], .srlL),
   ([0b11001011, 0b00111110], .srlIndHl), ([0b11001011, 0b00111111], .srlA)]

def rowsPrefixed2 : List (List Byte × Instr) :=
  [([0b11001011, 0b01000000], .bit0B), ([0b11001011, 0b01000001], .bit0C), ([0b11001011, 0b01000010], .bit0D),
   ([0b11001011, 0b01000011], .bit0E), ([0b11001011, 0b01000100], .bit0H), ([0b11001011, 0b01000101], .bit0L),
   ([0b11001011, 0b01000110], .bit0IndHl), ([0b11001011, 0b01000111], .bit0A), ([0b11001011, 0b01001000], .bit1B),
   ([0b11001011, 0b01001001], .bit1C), ([0b11001011, 0b01001010], .bit1D), ([0b11001011, 0b01001011], .bit1E),
   ([0b11001011, 0b01001100], .bit1H), ([0b11001011, 0b01001101], .bit1L), ([0b11001011, 0b01001110], .bit1IndHl),
   ([0b11001011, 0b01001111], .bit1A), ([0b11001011, 0b01010000], .bit2B), ([0b11001011, 0b01010001], .bit2C),
   ([0b11001011, 0b01010010], .bit2D), ([0b11001011, 0b01010011], .bit2E), ([0b11001011, 0b01010100], .bit2H),
   ([0b11001011, 0b01010101], .bit2L), ([0b11001011, 0b01010110], .bit2IndHl), ([0b11001011, 0b01010111], .bit2A),
   ([0b11001011, 0b01011000], .bit3B), ([0b11001011, 0b01011001], .bit3C), ([0b11001011, 0b01011010], .bit3D),
   ([0b11001011, 0b01011011], .bit3E), ([0b11001011, 0b01011100], .bit3H), ([0b11001011, 0b01011101], .bit3L),
   ([0b11001011, 0b01011110], .bit3IndHl), ([0b11001011, 0b01011111], .bit3A)]

def rowsPrefixed3 : List (List Byte × Instr) :=
  [([0b11001011, 0b01100000], .bit4B), ([0b11001011, 0b01100001], .bit4C), ([0b11001011, 0b01100010], .bit4D),
   ([0b11001011, 0b01100011], .bit4E), ([0b11001011, 0b01100100], .bit4H), ([0b11001011, 0b01100101], .bit4L),
   ([0b11001011, 0b01100110], .bit4IndHl), ([0b11001011, 0b01100111], .bit4A), ([0b11001011, 0b01101000], .bit5B),
   ([0b11001011, 0b01101001], .bit5C), ([0b11001011, 0b01101010], .bit5D), ([0b11001011, 0b01101011], .bit5E),
   ([0b11001011, 0b01101100], .bit5H), ([0b11001011, 0b01101101], .bit5L), ([0b11001011, 0b01101110], .bit5IndHl),
   ([0b11001011, 0b01101111], .bit5A), ([0b11001011, 0b01110000], .bit6B), ([0b11001011, 0b01110001], .bit6C),
   ([0b11001011, 0b01110010], .bit6D), ([0b11001011, 0b01110011], .bit6E), ([0b11001011, 0b01110100], .bit6H),
   ([0b11001011, 0b01110101], .bit6L), ([0b11001011, 0b01110110], .bit6IndHl), ([0b11001011, 0b01110111], .bit6A),
   ([0b11001011, 0b01111000], .bit7B), ([0b11001011, 0b01111001], .bit7C), ([0b11001011, 0b01111010], .bit7D),
   ([0b11001011, 0b01111011], .bit7E), ([0b11001011, 0b01111100], .bit7H), ([0b11001011, 0b01111101], .bit7L),
   ([0b11001011, 0b01111110], .bit7IndHl), ([0b11001011, 0b01111111], .bit7A)]

def rowsPrefixed4 : List (List Byte × Instr) :=
  [([0b11001011, 0b10000000], .res0B), ([0b11001011, 0b10000001], .res0C), ([0b11001011, 0b10000010], .res0D),
   ([0b11001011, 0b10000011], .res0E), ([0b11001011, 0b10000100], .res0H), ([0b11001011, 0b10000101], .res0L),
   ([0b11001011, 0b10000110], .res0IndHl), ([0b11001011, 0b10000111], .res0A), ([0b11001011, 0b10001000], .res1B),
   ([0b11001011, 0b10001001], .res1C), ([0b11001011, 0b10001010], .res1D), ([0b11001011, 0b10001011], .res1E),
   ([0b11001011, 0b10001100], .res1H), ([0b11001011, 0b10001101], .res1L), ([0b11001011, 0b10001110], .res1IndHl),
   ([0b11001011, 0b10001111], .res1A), ([0b11001011, 0b10010000], .res2B), ([0b11001011, 0b10010001], .res2C),
   ([0b11001011, 0b10010010], .res2D), ([0b11001011, 0b10010011], .res2E), ([0b11001011, 0b10010100], .res2H),
   ([0b11001011, 0b10010101], .res2L), ([0b11001011, 0b10010110], .res2IndHl), ([0b11001011, 0b10010111], .res2A),
   ([0b11001011, 0b10011000], .res3B), ([0b11001011, 0b10011001], .res3C), ([0b11001011, 0b10011010], .res3D),
   ([0b11001011, 0b10011011], .res3E), ([0b11001011, 0b10011100], .res3H), ([0b11001011, 0b10011101], .res3L),
   ([0b11001011, 0b10011110], .res3IndHl), ([0b11001011, 0b10011111], .res3A)]

def rowsPrefixed5 : List (List Byte × Instr) :=
  [([0b11001011, 0b10100000], .res4B), ([0b11001011, 0b10100001], .res4C), ([0b11001011, 0b10100010], .res4D),
   ([0b11001011, 0b10100011], .res4E), ([0b11001011, 0b10100100], .res4H), ([0b11001011, 0b10100101], .res4L),
   ([0b11001011, 0b10100110], .res4IndHl), ([0b11001011, 0b10100111], .res4A), ([0b11001011, 0b10101000], .res5B),
   ([0b11001011, 0b10101001], .res5C), ([0b11001011, 0b10101010], .res5D), ([0b11001011, 0b10101011], .res5E),
   ([0b11001011, 0b10101100], .res5H), ([0b11001011, 0b10101101], .res5L), ([0b11001011, 0b10101110], .res5IndHl),
   ([0b11001011, 0b10101111], .res5A), ([0b11001011, 0b10110000], .res6B), ([0b11001011, 0b10110001], .res6C),
   ([0b11001011, 0b10110010], .res6D), ([0b11001011, 0b10110011], .res6E), ([0b11001011, 0b10110100], .res6H),
   ([0b11001011, 0b10110101], .res6L), ([0b11001011, 0b10110110], .res6IndHl), ([0b11001011, 0b10110111], .res6A),
   ([0b11001011, 0b10111000], .res7B), ([0b11001011, 0b10111001], .res7C), ([0b11001011, 0b10111010], .res7D),
   ([0b11001011, 0b10111011], .res7E), ([0b11001011, 0b10111100], .res7H), ([0b11001011, 0b10111101], .res7L),
   ([0b11001011, 0b10111110], .res7IndHl), ([0b11001011, 0b10111111], .res7A)]

def rowsPrefixed6 : List (List Byte × Instr) :=
  [([0b11001011, 0b11000000], .set0B), ([0b11001011, 0b11000001], .set0C), ([0b11001011, 0b11000010], .set0D),
   ([0b11001011, 0b11000011], .set0E), ([0b11001011, 0b11000100], .set0H), ([0b11001011, 0b11000101], .set0L),
   ([0b11001011, 0b11000110], .set0IndHl), ([0b11001011, 0b11000111], .set0A), ([0b11001011, 0b11001000], .set1B),
   ([0b11001011, 0b11001001], .set1C), ([0b11001011, 0b11001010], .set1D), ([0b11001011, 0b11001011], .set1E),
   ([0b11001011, 0b11001100], .set1H), ([0b11001011, 0b11001101], .set1L), ([0b11001011, 0b11001110], .set1IndHl),
   ([0b11001011, 0b11001111], .set1A), ([0b11001011, 0b11010000], .set2B), ([0b11001011, 0b11010001], .set2C),
   ([0b11001011, 0b11010010], .set2D), ([0b11001011, 0b11010011], .set2E), ([0b11001011, 0b11010100], .set2H),
   ([0b11001011, 0b11010101], .set2L), ([0b11001011, 0b11010110], .set2IndHl), ([0b11001011, 0b11010111], .set2A),
   ([0b11001011, 0b11011000], .set3B), ([0b11001011, 0b11011001], .set3C), ([0b11001011, 0b11011010], .set3D),
   ([0b11001011, 0b11011011], .set3E), ([0b11001011, 0b11011100], .set3H), ([0b11001011, 0b11011101], .set3L),
   ([0b11001011, 0b11011110], .set3IndHl), ([0b11001011, 0b11011111], .set3A)]

def rowsPrefixed7 : List (List Byte × Instr) :=
  [([0b11001011, 0b11100000], .set4B), ([0b11001011, 0b11100001], .set4C), ([0b11001011, 0b11100010], .set4D),
   ([0b11001011, 0b11100011], .set4E), ([0b11001011, 0b11100100], .set4H), ([0b11001011, 0b11100101], .set4L),
   ([0b11001011, 0b11100110], .set4IndHl), ([0b11001011, 0b11100111], .set4A), ([0b11001011, 0b11101000], .set5B),
   ([0b11001011, 0b11101001], .set5C), ([0b11001011, 0b11101010], .set5D), ([0b11001011, 0b11101011], .set5E),
   ([0b11001011, 0b11101100], .set5H), ([0b11001011, 0b11101101], .set5L), ([0b11001011, 0b11101110], .set5IndHl),
   ([0b11001011, 0b11101111], .set5A), ([0b11001011, 0b11110000], .set6B), ([0b11001011, 0b11110001], .set6C),
   ([0b11001011, 0b11110010], .set6D), ([0b11001011, 0b11110011], .set6E), ([0b11001011, 0b11110100], .set6H),
   ([0b11001011, 0b11110101], .set6L), ([0b11001011, 0b11110110], .set6IndHl), ([0b11001011, 0b11110111], .set6A),
   ([0b11001011, 0b11111000], .set7B), ([0b11001011, 0b11111001], .set7C), ([0b11001011, 0b11111010], .set7D),
   ([0b11001011, 0b11111011], .set7E), ([0b11001011, 0b11111100], .set7H), ([0b11001011, 0b11111101], .set7L),
   ([0b11001011, 0b11111110], .set7IndHl), ([0b11001011, 0b11111111], .set7A)]

theorem test_decode_prefixed : (rowsPrefixed0 ++ rowsPrefixed1 ++ rowsPrefixed2 ++ rowsPrefixed3 ++ rowsPrefixed4 ++ rowsPrefixed5 ++ rowsPrefixed6 ++ rowsPrefixed7).all reads = true := by decide +kernel

/-- The table writes a prefixed row's word with its first byte high; the host may number it the other way: both read (log entry 5). -/
theorem test_table_word : decodeTableWord 16 0xCB37 = some .swapA ∧ decodeTableWord 16 0x37CB = some .swapA ∧
    decodeTableWord 24 0x1234CD = some (.callA16 0x1234) ∧ decodeTableWord 8 0xCD = some (.callA16 0x0000) := by decide

theorem test_decode_rejects_by_name : decode [] = .error .noBytes ∧ decode [0x06] = .error (.truncated 0x06) ∧
    decode [0xCD, 0x00] = .error (.truncated 0xCD) ∧ decode [0xCB] = .error (.truncated 0xCB) := ⟨rfl, rfl, rfl, rfl⟩

/-- A placed instruction is what the next step runs, as the first after reset (log entry 3). -/
theorem test_withFetchWord : (match step (State.reset.withFetchWord 16 0x5A06) with
    | .next t => decide (t.cpu.b = 0x5A ∧ t.cpu.pc = 0x0102 ∧ t.cpu.busy = 1)
    | _ => false) = true := by decide

/-! ## Instruction vectors (95_test_vectors.md section 2): one step from the base state of that section -/

/-- The base state's registers. -/
def base : Cpu :=
  { a := 0, f := 0, b := 0, c := 0, d := 0, e := 0, h := 0, l := 0, sp := 0xDFF0, pc := 0xC000, ime := .disabled, halted := false,
    busy := 0 }

/-- Bytes written through the bus. -/
def written (s : State) (cells : List (Word × Byte)) : State := cells.foldl (fun s c => busWrite s c.1 c.2) s

/-- The base state: LCD off, the code at 0xC000. -/
def start (code : List (Word × Byte)) (cpu : Cpu) (mem : List (Word × Byte)) : State :=
  written (written { State.reset with cpu := cpu, ppu := { State.reset.ppu with lcdc := 0 } } code) mem

/-- One step gives these registers, this cycle count, and no byte changed but those listed. -/
def runs (code : List (Word × Byte)) (cpu : Cpu) (mem : List (Word × Byte)) (cpu' : Cpu) (mem' : List (Word × Byte))
    (cycles : Nat) : Bool :=
  let s := start code cpu mem
  let e := written s mem'
  match step s with
  | .next t =>
    decide (t.cpu = { cpu' with busy := t.cpu.busy } ∧ t.reported = cycles) &&
      decide (t.wram = e.wram ∧ t.hram = e.hram ∧ t.ie = e.ie ∧ t.vram = e.vram ∧ t.oam = e.oam)
  | _ => false

/-- One step raises this fault. -/
def faults (code : List (Word × Byte)) (cpu : Cpu) (f : Fault) : Bool :=
  match step (start code cpu []) with
  | .fault g => decide (g = f)
  | _ => false

/-- LD-1. -/
theorem test_ld_b_c :
    (runs [(0xC000, 0x41)] { base with c := 0x5A } []
      { base with c := 0x5A, b := 0x5A, pc := 0xC001 } [] 4) = true := by decide

/-- LD-2. -/
theorem test_ld_a_a :
    (runs [(0xC000, 0x7F)] { base with a := 0x33 } []
      { base with a := 0x33, pc := 0xC001 } [] 4) = true := by decide

/-- LD-3. -/
theorem test_ld_e_ind_hl :
    (runs [(0xC000, 0x5E)] { base with h := 0xC1, l := 0x00 } [(0xC100, 0x9C)]
      { base with h := 0xC1, l := 0x00, e := 0x9C, pc := 0xC001 } [] 8) = true := by decide

/-- LD-4, LD-6, LD-8, LD-11, LD-12, LD-14, LD-17, LD-18, LD-23. -/
theorem test_ld :
    (runs [(0xC000, 0x77)] { base with a := 0x12, h := 0xE1, l := 0x00 } []
      { base with a := 0x12, h := 0xE1, l := 0x00, pc := 0xC001 } [(0xC100, 0x12)] 8 &&
    runs [(0xC000, 0x36), (0xC001, 0x7E)] { base with h := 0xC1, l := 0x01 } []
      { base with h := 0xC1, l := 0x01, pc := 0xC002 } [(0xC101, 0x7E)] 12 &&
    runs [(0xC000, 0x02)] { base with a := 0x81, b := 0xC0, c := 0x0E } []
      { base with a := 0x81, b := 0xC0, c := 0x0E, pc := 0xC001 } [(0xC00E, 0x81)] 8 &&
    runs [(0xC000, 0x22)] { base with a := 0x66, h := 0xFF, l := 0xFF } []
      { base with a := 0x66, h := 0x00, l := 0x00, pc := 0xC001 } [(0xFFFF, 0x66)] 8 &&
    runs [(0xC000, 0x32)] { base with a := 0x99, h := 0xC0, l := 0x0D } []
      { base with a := 0x99, h := 0xC0, l := 0x0C, pc := 0xC001 } [(0xC00D, 0x99)] 8 &&
    runs [(0xC000, 0xEA), (0xC001, 0x85), (0xC002, 0xFF)] { base with a := 0x5C } []
      { base with a := 0x5C, pc := 0xC003 } [(0xFF85, 0x5C)] 16 &&
    runs [(0xC000, 0x08), (0xC001, 0x08), (0xC002, 0xC0)] { base with sp := 0xBEEF } []
      { base with sp := 0xBEEF, pc := 0xC003 } [(0xC008, 0xEF), (0xC009, 0xBE)] 20 &&
    faults [(0xC000, 0x08), (0xC001, 0xFF), (0xC002, 0xFF)] { base with sp := 0xBEEF } (.wrapAccess16 0xFFFF 0xC000) &&
    runs [(0xC000, 0xE2)] { base with a := 0x3C, c := 0x81 } []
      { base with a := 0x3C, c := 0x81, pc := 0xC001 } [(0xFF81, 0x3C)] 8) = true := by decide

/-- LD-5. -/
theorem test_ld_h_d8 :
    (runs [(0xC000, 0x26), (0xC001, 0xC4)] base []
      { base with h := 0xC4, pc := 0xC002 } [] 8) = true := by decide

/-- LD-7. -/
theorem test_ld_a_ind_de :
    (runs [(0xC000, 0x1A)] { base with d := 0xC0, e := 0x0F } [(0xC00F, 0x44)]
      { base with d := 0xC0, e := 0x0F, a := 0x44, pc := 0xC001 } [] 8) = true := by decide

/-- LD-9. -/
theorem test_ld_a_hlinc :
    (runs [(0xC000, 0x2A)] { base with h := 0xC0, l := 0x0F } [(0xC00F, 0x21)]
      { base with h := 0xC0, l := 0x10, a := 0x21, pc := 0xC001 } [] 8) = true := by decide

/-- LD-10. -/
theorem test_ld_a_hldec :
    (runs [(0xC000, 0x3A)] { base with h := 0xC0, l := 0x00 } []
      { base with h := 0xBF, l := 0xFF, a := 0x3A, pc := 0xC001 } [] 8) = true := by decide

/-- LD-13. -/
theorem test_ld_a_ind_a16 :
    (runs [(0xC000, 0xFA), (0xC001, 0x44), (0xC002, 0xFF)] { base with a := 0x77 } []
      { base with a := 0x00, pc := 0xC003 } [] 16) = true := by decide

/-- LD-15. -/
theorem test_ld_rr_d16 :
    (runs [(0xC000, 0x01), (0xC001, 0x34), (0xC002, 0x12)] base []
      { base with b := 0x12, c := 0x34, pc := 0xC003 } [] 12) = true := by decide

/-- LD-16. -/
theorem test_ld_sp_d16 :
    (runs [(0xC000, 0x31), (0xC001, 0xFE), (0xC002, 0xFF)] base []
      { base with sp := 0xFFFE, pc := 0xC003 } [] 12) = true := by decide

/-- LD-19. -/
theorem test_ld_sp_hl :
    (runs [(0xC000, 0xF9)] { base with h := 0xD0, l := 0x00 } []
      { base with h := 0xD0, l := 0x00, sp := 0xD000, pc := 0xC001 } [] 8) = true := by decide

/-- LD-20. -/
theorem test_ldh_a_ind_a8 :
    (runs [(0xC000, 0xF0), (0xC001, 0x0F)] base []
      { base with a := 0xE0, pc := 0xC002 } [] 12) = true := by decide

/-- LD-21. -/
theorem test_ldh :
    (runs [(0xC000, 0xE0), (0xC001, 0x80)] { base with a := 0xA5 } []
      { base with a := 0xA5, pc := 0xC002 } [(0xFF80, 0xA5)] 12) = true := by decide

/-- LD-22. -/
theorem test_ld_a_ind_c :
    (runs [(0xC000, 0xF2)] { base with c := 0x4D } []
      { base with c := 0x4D, a := 0xFF, pc := 0xC001 } [] 8) = true := by decide

/-- LD-24. -/
theorem test_push_bc :
    (runs [(0xC000, 0xC5)] { base with b := 0x12, c := 0x34 } []
      { base with b := 0x12, c := 0x34, sp := 0xDFEE, pc := 0xC001 } [(0xDFEE, 0x34), (0xDFEF, 0x12)] 16) = true := by decide

/-- LD-25. -/
theorem test_push_af :
    (runs [(0xC000, 0xF5)] { base with a := 0x01, f := 0xB0 } []
      { base with a := 0x01, f := 0xB0, sp := 0xDFEE, pc := 0xC001 } [(0xDFEE, 0xB0), (0xDFEF, 0x01)] 16) = true := by decide

/-- LD-26. -/
theorem test_push_de :
    (faults [(0xC000, 0xD5)] { base with sp := 0x0001 } (.wrapAccess16 0xFFFF 0xC000)) = true := by decide

/-- LD-27. -/
theorem test_pop_hl :
    (runs [(0xC000, 0xE1)] { base with sp := 0xDFEE } [(0xDFEE, 0x4D), (0xDFEF, 0x01)]
      { base with sp := 0xDFF0, h := 0x01, l := 0x4D, pc := 0xC001 } [] 12) = true := by decide

/-- LD-28. -/
theorem test_pop_af :
    (runs [(0xC000, 0xF1)] { base with sp := 0xDFEE } [(0xDFEE, 0xFF), (0xDFEF, 0x12)]
      { base with sp := 0xDFF0, a := 0x12, f := 0xF0, pc := 0xC001 } [] 12) = true := by decide

/-- LD-29. -/
theorem test_pop_bc :
    (faults [(0xC000, 0xC1)] { base with sp := 0xFFFF } (.wrapAccess16 0xFFFF 0xC000)) = true := by decide

/-- ALU8-1, ALU8-2. -/
theorem test_add_a_b :
    (runs [(0xC000, 0x80)] { base with a := 0x0F, b := 0x01 } []
      { base with a := 0x10, b := 0x01, f := 0x20, pc := 0xC001 } [] 4 &&
    runs [(0xC000, 0x80)] { base with a := 0xFF, b := 0x01 } []
      { base with a := 0x00, b := 0x01, f := 0xB0, pc := 0xC001 } [] 4) = true := by decide

/-- ALU8-3. -/
theorem test_add_a_a :
    (runs [(0xC000, 0x87)] { base with a := 0x88 } []
      { base with a := 0x10, f := 0x30, pc := 0xC001 } [] 4) = true := by decide

/-- ALU8-4. -/
theorem test_add_a_ind_hl :
    (runs [(0xC000, 0x86)] { base with a := 0x3A, h := 0xC1, l := 0x00 } [(0xC100, 0xC6)]
      { base with a := 0x00, h := 0xC1, l := 0x00, f := 0xB0, pc := 0xC001 } [] 8) = true := by decide

/-- ALU8-5. -/
theorem test_adc_a_d8 :
    (runs [(0xC000, 0xCE), (0xC001, 0xFF)] { base with a := 0x42, f := 0x10 } []
      { base with a := 0x42, f := 0x30, pc := 0xC002 } [] 8) = true := by decide

/-- ALU8-6. -/
theorem test_adc_a_c :
    (runs [(0xC000, 0x89)] { base with a := 0x0E, c := 0x01, f := 0x10 } []
      { base with a := 0x10, c := 0x01, f := 0x20, pc := 0xC001 } [] 4) = true := by decide

/-- ALU8-7. -/
theorem test_sub_a_d8 :
    (runs [(0xC000, 0xD6), (0xC001, 0x01)] { base with a := 0x10 } []
      { base with a := 0x0F, f := 0x60, pc := 0xC002 } [] 8) = true := by decide

/-- ALU8-8. -/
theorem test_sub_a_b :
    (runs [(0xC000, 0x90)] { base with a := 0x00, b := 0x01 } []
      { base with a := 0xFF, b := 0x01, f := 0x70, pc := 0xC001 } [] 4) = true := by decide

/-- ALU8-9. -/
theorem test_sub_a_a :
    (runs [(0xC000, 0x97)] { base with a := 0x5E } []
      { base with a := 0x00, f := 0xC0, pc := 0xC001 } [] 4) = true := by decide

/-- ALU8-10. -/
theorem test_sbc_a_a :
    (runs [(0xC000, 0x9F)] { base with a := 0x5E, f := 0x10 } []
      { base with a := 0xFF, f := 0x70, pc := 0xC001 } [] 4) = true := by decide

/-- ALU8-11. -/
theorem test_sbc_a_d8 :
    (runs [(0xC000, 0xDE), (0xC001, 0x0F)] { base with a := 0x10, f := 0x10 } []
      { base with a := 0x00, f := 0xE0, pc := 0xC002 } [] 8) = true := by decide

/-- ALU8-12. -/
theorem test_and_a_d8 :
    (runs [(0xC000, 0xE6), (0xC001, 0x00)] { base with a := 0xFF } []
      { base with a := 0x00, f := 0xA0, pc := 0xC002 } [] 8) = true := by decide

/-- ALU8-13. -/
theorem test_xor_a_a :
    (runs [(0xC000, 0xAF)] { base with a := 0x7C, f := 0x70 } []
      { base with a := 0x00, f := 0x80, pc := 0xC001 } [] 4) = true := by decide

/-- ALU8-14. -/
theorem test_or_a_ind_hl :
    (runs [(0xC000, 0xB6)] { base with a := 0x00, h := 0xC1, l := 0x00 } []
      { base with a := 0x00, h := 0xC1, l := 0x00, f := 0x80, pc := 0xC001 } [] 8) = true := by decide

/-- ALU8-15, ALU8-16. -/
theorem test_cp_a_d8 :
    (runs [(0xC000, 0xFE), (0xC001, 0x2F)] { base with a := 0x2F } []
      { base with a := 0x2F, f := 0xC0, pc := 0xC002 } [] 8 &&
    runs [(0xC000, 0xFE), (0xC001, 0x90)] { base with a := 0x2F } []
      { base with a := 0x2F, f := 0x50, pc := 0xC002 } [] 8) = true := by decide

/-- ALU8-17. -/
theorem test_inc_a :
    (runs [(0xC000, 0x3C)] { base with a := 0xFF, f := 0x10 } []
      { base with a := 0x00, f := 0xB0, pc := 0xC001 } [] 4) = true := by decide

/-- ALU8-18. -/
theorem test_inc :
    (runs [(0xC000, 0x34)] { base with h := 0xC1, l := 0x00 } [(0xC100, 0x0F)]
      { base with h := 0xC1, l := 0x00, f := 0x20, pc := 0xC001 } [(0xC100, 0x10)] 12) = true := by decide

/-- ALU8-19, ALU8-20. -/
theorem test_dec_b :
    (runs [(0xC000, 0x05)] { base with b := 0x00 } []
      { base with b := 0xFF, f := 0x60, pc := 0xC001 } [] 4 &&
    runs [(0xC000, 0x05)] { base with b := 0x01, f := 0x10 } []
      { base with b := 0x00, f := 0xD0, pc := 0xC001 } [] 4) = true := by decide

/-- ALU8-21. -/
theorem test_dec :
    (runs [(0xC000, 0x35)] { base with h := 0xC1, l := 0x00 } [(0xC100, 0x10)]
      { base with h := 0xC1, l := 0x00, f := 0x60, pc := 0xC001 } [(0xC100, 0x0F)] 12) = true := by decide

/-- ALU8-22, ALU8-23, ALU8-24, ALU8-25, ALU8-26, ALU8-27, ALU8-28. -/
theorem test_daa :
    (runs [(0xC000, 0x27)] { base with a := 0x7D, f := 0x00 } []
      { base with a := 0x83, f := 0x00, pc := 0xC001 } [] 4 &&
    runs [(0xC000, 0x27)] { base with a := 0x9A, f := 0x00 } []
      { base with a := 0x00, f := 0x90, pc := 0xC001 } [] 4 &&
    runs [(0xC000, 0x27)] { base with a := 0x20, f := 0x10 } []
      { base with a := 0x80, f := 0x10, pc := 0xC001 } [] 4 &&
    runs [(0xC000, 0x27)] { base with a := 0x12, f := 0x20 } []
      { base with a := 0x18, f := 0x00, pc := 0xC001 } [] 4 &&
    runs [(0xC000, 0x27)] { base with a := 0x1F, f := 0x60 } []
      { base with a := 0x19, f := 0x40, pc := 0xC001 } [] 4 &&
    runs [(0xC000, 0x27)] { base with a := 0xF0, f := 0x50 } []
      { base with a := 0x90, f := 0x50, pc := 0xC001 } [] 4 &&
    runs [(0xC000, 0x27)] { base with a := 0x00, f := 0x00 } []
      { base with a := 0x00, f := 0x80, pc := 0xC001 } [] 4) = true := by decide

/-- ALU8-29. -/
theorem test_cpl :
    (runs [(0xC000, 0x2F)] { base with a := 0x00, f := 0x80 } []
      { base with a := 0xFF, f := 0xE0, pc := 0xC001 } [] 4) = true := by decide

/-- ALU8-30. -/
theorem test_scf :
    (runs [(0xC000, 0x37)] { base with f := 0x60 } []
      { base with f := 0x10, pc := 0xC001 } [] 4) = true := by decide

/-- ALU8-31. -/
theorem test_ccf :
    (runs [(0xC000, 0x3F)] { base with f := 0x30 } []
      { base with f := 0x00, pc := 0xC001 } [] 4) = true := by decide

/-- ALU16-1. -/
theorem test_add_hl_bc :
    (runs [(0xC000, 0x09)] { base with h := 0x0F, l := 0xFF, b := 0x00, c := 0x01, f := 0x80 } []
      { base with h := 0x10, l := 0x00, b := 0x00, c := 0x01, f := 0xA0, pc := 0xC001 } [] 8) = true := by decide

/-- ALU16-2. -/
theorem test_add_hl_de :
    (runs [(0xC000, 0x19)] { base with h := 0xFF, l := 0xFF, d := 0x00, e := 0x01 } []
      { base with h := 0x00, l := 0x00, d := 0x00, e := 0x01, f := 0x30, pc := 0xC001 } [] 8) = true := by decide

/-- ALU16-3. -/
theorem test_add_hl_sp :
    (runs [(0xC000, 0x39)] { base with h := 0x10, l := 0x00, sp := 0xDFF0 } []
      { base with h := 0xEF, l := 0xF0, sp := 0xDFF0, pc := 0xC001 } [] 8) = true := by decide

/-- ALU16-4. -/
theorem test_inc_sp :
    (runs [(0xC000, 0x33)] { base with sp := 0xFFFF } []
      { base with sp := 0x0000, pc := 0xC001 } [] 8) = true := by decide

/-- ALU16-5. -/
theorem test_dec_de :
    (runs [(0xC000, 0x1B)] { base with d := 0x00, e := 0x00, f := 0xF0 } []
      { base with d := 0xFF, e := 0xFF, f := 0xF0, pc := 0xC001 } [] 8) = true := by decide

/-- ALU16-6, ALU16-7, ALU16-8. -/
theorem test_add_sp_e8 :
    (runs [(0xC000, 0xE8), (0xC001, 0x01)] { base with sp := 0x00FF } []
      { base with sp := 0x0100, f := 0x30, pc := 0xC002 } [] 16 &&
    runs [(0xC000, 0xE8), (0xC001, 0xFE)] { base with sp := 0x0005 } []
      { base with sp := 0x0003, f := 0x30, pc := 0xC002 } [] 16 &&
    runs [(0xC000, 0xE8), (0xC001, 0x80)] { base with sp := 0xDFF0 } []
      { base with sp := 0xDF70, f := 0x10, pc := 0xC002 } [] 16) = true := by decide

/-- ALU16-9, ALU16-10. -/
theorem test_ld_hl_sp_plus_e8 :
    (runs [(0xC000, 0xF8), (0xC001, 0x00)] { base with sp := 0xDFF0, f := 0xF0 } []
      { base with sp := 0xDFF0, f := 0x00, h := 0xDF, l := 0xF0, pc := 0xC002 } [] 12 &&
    runs [(0xC000, 0xF8), (0xC001, 0xFF)] { base with sp := 0x0000 } []
      { base with sp := 0x0000, h := 0xFF, l := 0xFF, pc := 0xC002 } [] 12) = true := by decide

/-- ROT-1. -/
theorem test_rlca :
    (runs [(0xC000, 0x07)] { base with a := 0x00, f := 0x80 } []
      { base with a := 0x00, f := 0x00, pc := 0xC001 } [] 4) = true := by decide

/-- ROT-2. -/
theorem test_rrca :
    (runs [(0xC000, 0x0F)] { base with a := 0x3B } []
      { base with a := 0x9D, f := 0x10, pc := 0xC001 } [] 4) = true := by decide

/-- ROT-3. -/
theorem test_rla :
    (runs [(0xC000, 0x17)] { base with a := 0x80 } []
      { base with a := 0x00, f := 0x10, pc := 0xC001 } [] 4) = true := by decide

/-- ROT-4. -/
theorem test_rra :
    (runs [(0xC000, 0x1F)] { base with a := 0x01, f := 0x10 } []
      { base with a := 0x80, f := 0x10, pc := 0xC001 } [] 4) = true := by decide

/-- ROT-5. -/
theorem test_rlc :
    (runs [(0xC000, 0xCB), (0xC001, 0x06)] { base with h := 0xC1, l := 0x00 } [(0xC100, 0x00)]
      { base with h := 0xC1, l := 0x00, f := 0x80, pc := 0xC002 } [] 16) = true := by decide

/-- ROT-6. -/
theorem test_rrc_b :
    (runs [(0xC000, 0xCB), (0xC001, 0x08)] { base with b := 0x01 } []
      { base with b := 0x80, f := 0x10, pc := 0xC002 } [] 8) = true := by decide

/-- ROT-7. -/
theorem test_rl_c :
    (runs [(0xC000, 0xCB), (0xC001, 0x11)] { base with c := 0x80 } []
      { base with c := 0x00, f := 0x90, pc := 0xC002 } [] 8) = true := by decide

/-- ROT-8. -/
theorem test_rr_d :
    (runs [(0xC000, 0xCB), (0xC001, 0x1A)] { base with d := 0x00, f := 0x10 } []
      { base with d := 0x80, f := 0x00, pc := 0xC002 } [] 8) = true := by decide

/-- ROT-9. -/
theorem test_sla_e :
    (runs [(0xC000, 0xCB), (0xC001, 0x23)] { base with e := 0x80 } []
      { base with e := 0x00, f := 0x90, pc := 0xC002 } [] 8) = true := by decide

/-- ROT-10. -/
theorem test_sra_h :
    (runs [(0xC000, 0xCB), (0xC001, 0x2C)] { base with h := 0x81 } []
      { base with h := 0xC0, f := 0x10, pc := 0xC002 } [] 8) = true := by decide

/-- ROT-11. -/
theorem test_swap_a :
    (runs [(0xC000, 0xCB), (0xC001, 0x37)] { base with a := 0x00, f := 0x70 } []
      { base with a := 0x00, f := 0x80, pc := 0xC002 } [] 8) = true := by decide

/-- ROT-12. -/
theorem test_srl_l :
    (runs [(0xC000, 0xCB), (0xC001, 0x3D)] { base with l := 0xFF } []
      { base with l := 0x7F, f := 0x10, pc := 0xC002 } [] 8) = true := by decide

/-- ROT-13. -/
theorem test_bit_0_a :
    (runs [(0xC000, 0xCB), (0xC001, 0x47)] { base with a := 0xFE, f := 0x10 } []
      { base with a := 0xFE, f := 0xB0, pc := 0xC002 } [] 8) = true := by decide

/-- ROT-14. -/
theorem test_bit_7_ind_hl :
    (runs [(0xC000, 0xCB), (0xC001, 0x7E)] { base with h := 0xC1, l := 0x00 } [(0xC100, 0x80)]
      { base with h := 0xC1, l := 0x00, f := 0x20, pc := 0xC002 } [] 12) = true := by decide

/-- ROT-15. -/
theorem test_res_7_ind_hl :
    (runs [(0xC000, 0xCB), (0xC001, 0xBE)] { base with h := 0xC1, l := 0x00 } [(0xC100, 0xFF)]
      { base with h := 0xC1, l := 0x00, pc := 0xC002 } [(0xC100, 0x7F)] 16) = true := by decide

/-- ROT-16. -/
theorem test_set_0_b :
    (runs [(0xC000, 0xCB), (0xC001, 0xC0)] { base with b := 0x00, f := 0xF0 } []
      { base with b := 0x01, f := 0xF0, pc := 0xC002 } [] 8) = true := by decide

/-- CTL-1. -/
theorem test_jp_a16 :
    (runs [(0xC000, 0xC3), (0xC001, 0x00), (0xC002, 0x80)] base []
      { base with pc := 0x8000 } [] 16) = true := by decide

/-- CTL-2. -/
theorem test_jp_nz_a16 :
    (runs [(0xC000, 0xC2), (0xC001, 0x34), (0xC002, 0x12)] base []
      { base with pc := 0x1234 } [] 16) = true := by decide

/-- CTL-3. -/
theorem test_jp_z_a16 :
    (runs [(0xC000, 0xCA), (0xC001, 0x34), (0xC002, 0x12)] base []
      { base with pc := 0xC003 } [] 12) = true := by decide

/-- CTL-4. -/
theorem test_jp_hl :
    (runs [(0xC000, 0xE9)] { base with h := 0xFF, l := 0x80 } []
      { base with h := 0xFF, l := 0x80, pc := 0xFF80 } [] 4) = true := by decide

/-- CTL-5, CTL-6. -/
theorem test_jr_e8 :
    (runs [(0xC000, 0x18), (0xC001, 0xFE)] base []
      { base with pc := 0xC000 } [] 12 &&
    runs [(0xC000, 0x18), (0xC001, 0x7F)] base []
      { base with pc := 0xC081 } [] 12) = true := by decide

/-- CTL-7. -/
theorem test_jr_c_e8 :
    (runs [(0xC000, 0x38), (0xC001, 0x80)] { base with f := 0x10 } []
      { base with f := 0x10, pc := 0xBF82 } [] 12) = true := by decide

/-- CTL-8. -/
theorem test_jr_nc_e8 :
    (runs [(0xC000, 0x30), (0xC001, 0x10)] { base with f := 0x10 } []
      { base with f := 0x10, pc := 0xC002 } [] 8) = true := by decide

/-- CTL-9. -/
theorem test_call_a16 :
    (runs [(0xC000, 0xCD), (0xC001, 0x00), (0xC002, 0x20)] base []
      { base with sp := 0xDFEE, pc := 0x2000 } [(0xDFEE, 0x03), (0xDFEF, 0xC0)] 24) = true := by decide

/-- CTL-10. -/
theorem test_call_nz_a16 :
    (runs [(0xC000, 0xC4), (0xC001, 0x00), (0xC002, 0x20)] { base with f := 0x80 } []
      { base with f := 0x80, pc := 0xC003 } [] 12) = true := by decide

/-- CTL-11. -/
theorem test_call :
    (faults [(0xC000, 0xCD), (0xC001, 0x00), (0xC002, 0x20)] { base with sp := 0x0001 } (.wrapAccess16 0xFFFF 0xC000)) = true := by decide

/-- CTL-12. -/
theorem test_ret :
    (runs [(0xC000, 0xC9)] { base with sp := 0xDFEE } [(0xDFEE, 0x50), (0xDFEF, 0x01)]
      { base with sp := 0xDFF0, pc := 0x0150 } [] 16) = true := by decide

/-- CTL-13. -/
theorem test_ret_nc :
    (runs [(0xC000, 0xD0)] { base with sp := 0xDFEE } [(0xDFEE, 0x50), (0xDFEF, 0x01)]
      { base with sp := 0xDFF0, pc := 0x0150 } [] 20) = true := by decide

/-- CTL-14. -/
theorem test_ret_c :
    (runs [(0xC000, 0xD8)] { base with sp := 0xDFEE } []
      { base with sp := 0xDFEE, pc := 0xC001 } [] 8) = true := by decide

/-- CTL-15. -/
theorem test_rst_0x38 :
    (runs [(0xC000, 0xFF)] base []
      { base with sp := 0xDFEE, pc := 0x0038 } [(0xDFEE, 0x01), (0xDFEF, 0xC0)] 16) = true := by decide

/-- CTL-16. -/
theorem test_reti :
    (runs [(0xC000, 0xD9)] { base with sp := 0xDFEE } [(0xDFEE, 0x02), (0xDFEF, 0xC0)]
      { base with sp := 0xDFF0, pc := 0xC002, ime := .enabled } [] 16) = true := by decide

/-- SYS-1. -/
theorem test_nop :
    (runs [(0xC000, 0x00)] base []
      { base with pc := 0xC001 } [] 4) = true := by decide

/-- SYS-2. -/
theorem test_halt :
    (runs [(0xC000, 0x76)] base []
      { base with pc := 0xC001, halted := true } [] 4) = true := by decide

/-- SYS-3. -/
theorem test_stop :
    (faults [(0xC000, 0x10), (0xC001, 0x00)] base (.unmodelledStop 0xC000)) = true := by decide

/-- SYS-4. -/
theorem test_di :
    (runs [(0xC000, 0xF3)] { base with ime := .enabled } []
      { base with ime := .disabled, pc := 0xC001 } [] 4) = true := by decide

/-- SYS-5, SYS-6. -/
theorem test_ei :
    (runs [(0xC000, 0xFB)] base []
      { base with pc := 0xC001, ime := .pending } [] 4 &&
    runs [(0xC000, 0xFB)] { base with ime := .pending } []
      { base with ime := .enabled, pc := 0xC001 } [] 4) = true := by decide

/-- SYS-7. -/
theorem test_illegal_0xd3 :
    (faults [(0xC000, 0xD3)] base (.illegalOpcode 0xD3 0xC000)) = true := by decide

/-- SYS-8. -/
theorem test_illegal_0xfd :
    (faults [(0xC000, 0xFD)] base (.illegalOpcode 0xFD 0xC000)) = true := by decide

/-! ## Device vectors (95_test_vectors.md section 4), one step each -/

/-- The base state with a timer. -/
def withTimer (t : Timer) : State := { start [] base [] with timer := t }

/-- TIM-1, TIM-2, TIM-3. -/
theorem test_timer_overflow_is_deferred :
    (let a := timerMcycle (withTimer ⟨0x0008, 0xFF, 0x42, 0x05, false⟩)
     let b := timerMcycle a
     let c := timerMcycle b
     decide (a.timer = ⟨0x000C, 0xFF, 0x42, 0x05, false⟩ ∧ a.ifReg = 0x00) &&
       decide (b.timer = ⟨0x0010, 0x00, 0x42, 0x05, true⟩ ∧ b.ifReg = 0x00) &&
       decide (c.timer = ⟨0x0014, 0x42, 0x42, 0x05, false⟩ ∧ c.ifReg = 0x04)) = true := by decide

/-- TIM-6, TIM-8. -/
theorem test_timer_writes_in_the_reload_mcycle :
    (let s := withTimer ⟨0x0010, 0x00, 0x42, 0x05, true⟩
     let a := timerMcycle (busWrite s 0xFF05 0x99)
     let b := timerMcycle (busWrite s 0xFF06 0x77)
     decide (a.timer.tima = 0x99 ∧ a.ifReg = 0x00) && decide (b.timer.tima = 0x77 ∧ b.ifReg = 0x04)) = true := by decide

/-- TIM-9, TIM-10. -/
theorem test_timer_div_write_edge :
    (let a := timerMcycle (busWrite (withTimer ⟨0x0008, 0x10, 0x42, 0x05, false⟩) 0xFF04 0x00)
     let b := timerMcycle (busWrite (withTimer ⟨0x0004, 0x10, 0x42, 0x05, false⟩) 0xFF04 0x00)
     decide (a.timer.divider = 0x0004 ∧ a.timer.tima = 0x11 ∧ b.timer.divider = 0x0004 ∧ b.timer.tima = 0x10)) = true := by decide

/-- INT-1. -/
theorem test_interrupt_dispatch :
    (match cpuMcycle { start [] { base with pc := 0x1234, sp := 0xFFFE, ime := .enabled } [(0xFFFF, 0x1F)] with ifReg := 0x14 } with
      | .next t => decide (t.cpu = { base with pc := 0x0050, sp := 0xFFFC, busy := 4 } ∧ t.ifReg = 0x10 ∧
          busRead t 0xFFFC = 0x34 ∧ busRead t 0xFFFD = 0x12)
      | _ => false) = true := by decide

/-- INT-6: the step that wakes runs the next instruction, and dispatches nothing with IME Disabled. -/
theorem test_halt_wakes :
    (match step { start [(0xC000, 0x3C)] { base with a := 0x01, f := 0xB0, halted := true } [] with ifReg := 0x08 } with
      | .next t => decide (t.cpu = { base with a := 0x02, f := 0x10, pc := 0xC001 } ∧ t.ifReg = 0x08)
      | _ => false) = true := by decide

/-- INT-7. -/
theorem test_interrupt_wrap_faults :
    (match step { start [] { base with sp := 0x0001, ime := .enabled } [(0xFFFF, 0x01)] with ifReg := 0x01 } with
      | .fault f => decide (f = .wrapAccess16 0xFFFF 0xC000)
      | _ => false) = true := by decide

/-- The reset state at another line and dot. -/
def atDot (ly dot : Nat) (mode : PpuMode) : State :=
  { State.reset with ppu := { State.reset.ppu with ly := ly, dot := dot, mode := mode } }

/-- PPU-1 to PPU-4: mode 2 through dot 79, mode 3 from dot 80, mode 0 from dot 252. -/
theorem test_ppu_modes_of_a_line :
    (decide ((ppuDot (atDot 0 79 .oamScan)).ppu.mode = .oamScan ∧ (ppuDot (atDot 0 80 .oamScan)).ppu.mode = .transfer) &&
      decide ((ppuDot (atDot 0 251 .transfer)).ppu.mode = .transfer ∧ (ppuDot (atDot 0 252 .transfer)).ppu.mode = .hblank)) = true := by
  decide

/-- PPU-5 to PPU-7: the line and the frame wrap, V-blank at line 144, dot 0. -/
theorem test_ppu_line_and_frame_ends :
    (let a := ppuDot (atDot 0 455 .hblank)
     let b := ppuDot (atDot 144 0 .hblank)
     let c := ppuDot (atDot 153 455 .vblank)
     decide (a.ppu.ly = 1 ∧ a.ppu.dot = 0 ∧ a.ppu.mode = .hblank ∧ b.ppu.mode = .vblank ∧ b.ifReg = 0x01 ∧ b.ppu.fbPub.isSome = true) &&
       decide (c.ppu.ly = 0 ∧ c.ppu.dot = 0 ∧ c.ppu.mode = .vblank)) = true := by decide

/-- PPU-10, and R622 with a window and two objects: 172 + 5, 172 + 6 + 12. -/
theorem test_ppu_mode3_length :
    mode3Len .reference 0 { Snapshot.empty with scx := 5 } false = 177 ∧
    mode3Len .reference 0 { Snapshot.empty with lcdc := 0x23, wx := 7, objs := [⟨0, 16, 8, 0, 0⟩, ⟨1, 16, 167, 0, 0⟩] } true = 190 := by
  decide

/-- R630: bytes 0x3C, 0x7E of a tile row are the colour indices 0 2 3 3 3 3 2 0. -/
theorem test_tile_row : (List.range 8).map (tilePixel [(0, 0x3C), (1, 0x7E)] 0 0) = [0, 2, 3, 3, 3, 3, 2, 0] := by decide

/-- R633: the smaller X has priority, a tie goes to the smaller OAM index. -/
theorem test_object_priority :
    (byPriority [⟨0, 16, 20, 0, 0⟩, ⟨1, 16, 10, 0, 0⟩, ⟨2, 16, 20, 0, 0⟩, ⟨3, 16, 10, 0, 0⟩]).map ObjEntry.index = [1, 3, 0, 2] := by
  decide

/-- PPU lockout checks of section 4.3. -/
theorem test_ppu_lockouts :
    busRead (busWrite (atDot 0 84 .transfer) 0x8000 0x55) 0x8000 = 0x00 ∧
    busRead (busWrite (atDot 0 256 .hblank) 0x8000 0x55) 0x8000 = 0x55 ∧
    busRead (atDot 0 84 .transfer) 0xFEA0 = 0xFF ∧ busRead (atDot 0 256 .hblank) 0xFEA0 = 0x00 := by decide

/-- DMA-1: the first byte lands at the fourth dot. -/
theorem test_dma_first_byte :
    (let s := busWrite (start [] base [(0xC100, 0x5A)]) 0xFF46 0xC1
     let t := ppuDot (ppuDot (ppuDot s))
     decide (t.oam.read 0 = 0x00 ∧ (ppuDot t).oam.read 0 = 0x5A ∧ (ppuDot t).dma.index = 1)) = true := by decide

/-- SER-1 and R530: the byte sent is the byte the host sees; the first bit shifts a 1 in after 512 T-cycles. -/
theorem test_serial_start_and_shift :
    (let s := busWrite (start [] base [(0xFF01, 0x41)]) 0xFF02 0x81
     let t := serialMcycle { s with serial := { s.serial with clock := 508 } }
     decide (s.out.serialOut = [0x41] ∧ s.serial.bits = 8 ∧ t.serial.sb = 0x83 ∧ t.serial.bits = 7 ∧ t.ifReg = 0x00)) = true := by decide

/-- The cartridge of section 4.5. -/
def banked : State :=
  { State.reset with
    cart := { kind := .bank, battery := true, romBanks := 4, ramBanks := 4,
              rom := [(0x0000, 0x10), (0x4000, 0x11), (0x8000, 0x12), (0xC000, 0x13)] } }

/-- MAP-1 to MAP-8. -/
theorem test_mapper_rom_banks :
    ([0x00, 0x01, 0x02, 0x03, 0x04, 0x05, 0x21, 0x1F].map (fun v => busRead (busWrite banked 0x2000 v) 0x4000) =
      [0x11, 0x11, 0x12, 0x13, 0x10, 0x11, 0x11, 0x13]) := by decide

/-- MAP-9 to MAP-14. -/
theorem test_mapper_ram :
    (let on := busWrite (busWrite banked 0x0000 0x1A) 0x4000 0x02
     let s := busWrite on 0xA005 0x77
     decide (busRead banked 0xA000 = 0xFF ∧ busRead s 0xA005 = 0x77 ∧ s.out.persist = [(0x4005, 0x77)]) &&
       decide (busRead (busWrite s 0x4000 0x06) 0xA005 = 0x77 ∧ busRead (busWrite s 0x0000 0x00) 0xA005 = 0xFF ∧
         (busWrite s 0x6000 0x12).mapper = s.mapper)) = true := by decide

/-- MAP-15. -/
theorem test_no_mapper : busWrite State.reset 0x2000 0x02 = State.reset := by rw [busWrite_rom _ (by decide)]; rfl

/-- W3-1 to W3-4. -/
theorem test_echo :
    busRead (busWrite (start [] base []) 0xC123 0x5A) 0xE123 = 0x5A ∧
    busRead (busWrite (start [] base []) 0xFDFF 0x11) 0xDDFF = 0x11 ∧
    busRead (busWrite (start [] base []) 0xE000 0x22) 0xC000 = 0x22 ∧
    busRead (busWrite (start [] base []) 0xDE00 0x33) 0xFE00 = 0x00 := by decide +kernel

/-- W4: the boundary addresses and their owners. -/
theorem test_regions :
    ([0x3FFF, 0x4000, 0x7FFF, 0x8000, 0x9FFF, 0xA000, 0xBFFF, 0xC000, 0xCFFF, 0xD000, 0xDFFF].map regionOf =
      [.rom0, .romX, .romX, .vram, .vram, .cartRam, .cartRam, .wram0, .wram0, .wram1, .wram1]) ∧
    ([0xE000, 0xFDFF, 0xFE00, 0xFE9F, 0xFEA0, 0xFEFF, 0xFF00, 0xFF7F, 0xFF80, 0xFFFE, 0xFFFF].map regionOf =
      [.echo, .echo, .oam, .oam, .prohibited, .prohibited, .io, .io, .hram, .hram, .ie]) := by decide

/-- The reset values that a read of each I/O register gives (70_reset_and_hazards.md R801, 10_state.md R40 to R60). -/
theorem test_reset_reads :
    ([0xFF00, 0xFF01, 0xFF02, 0xFF04, 0xFF05, 0xFF06, 0xFF07, 0xFF0F, 0xFF40, 0xFF42, 0xFF44, 0xFF46, 0xFF47, 0xFF26, 0xFF03].map
      (busRead State.reset) = [0xCF, 0x00, 0x7E, 0xAB, 0x00, 0x00, 0xF8, 0xE0, 0x91, 0x00, 0x00, 0xFF, 0xFC, 0xF1, 0xFF]) := by decide

/-- APU-1 and APU-2. -/
theorem test_apu_lengths :
    (Apu.reset.write .nr21 0xC5).ch2.len = 59 ∧ (Apu.reset.write .nr31 0x10).ch3.len = 240 := by decide

/-- APU-3: one length clock runs the length out and turns the channel off. -/
theorem test_apu_length_clock :
    (let a := ((Apu.reset.write .nr42 0xF0).write .nr41 0x3F).write .nr44 0xC0
     decide (a.ch4.on = true ∧ a.ch4.len = 1 ∧ a.lengthClock.ch4.on = false ∧ a.lengthClock.ch4.len = 0)) = true := by decide

/-- APU-5, APU-6. -/
theorem test_apu_dac :
    (Apu.reset.write .nr24 0x80).ch2.on = false ∧ Apu.reset.ch1.on = true ∧ (Apu.reset.write .nr12 0x07).ch1.on = false := by decide

/-- APU-7, APU-8, APU-18. -/
theorem test_apu_periods :
    pulseReload 0x700 = 1024 ∧ pulseReload 0x7FF = 4 ∧ pulseReload 0x000 = 8192 ∧ pulseReload 0x6D6 = 1192 ∧
    noisePeriod 0x00 = 8 ∧ noisePeriod 0x23 = 192 := by decide

/-- APU-9. -/
theorem test_apu_duty :
    (List.range 8).map (fun k => pulseOut 0x80 { on := true, len := 0, timer := 1, dutyPos := k, vol := 15, envTimer := 0 }) =
      [15, 0, 0, 0, 0, 15, 15, 15] := by decide

/-- APU-14, APU-15. -/
theorem test_apu_sweep :
    (let a := ((Apu.reset.write .nr10 0x11).write .nr13 0x00).write .nr14 0x87
     let b := ((Apu.reset.write .nr10 0x11).write .nr13 0x00).write .nr14 0x84
     let c := b.sweepClock
     decide (a.ch1.on = false ∧ b.ch1.on = true ∧ c.sweep.shadow = 0x600 ∧ c.nr13 = 0x00 ∧ field c.nr14 2 0 = 6 ∧ c.ch1.on = false)) =
      true := by decide

/-- APU-17. -/
theorem test_apu_wave :
    (let m : Memory := [(0, 0xA5), (1, 0x3C)]
     decide (waveNibble m 1 = 0x5 ∧ waveNibble m 2 = 0x3 ∧ waveNibble m 0 = 0xA) &&
       decide (waveOut 0x40 { on := true, len := 0, timer := 1, pos := 2, sample := 0x3 } = 1 ∧
         waveOut 0x60 { on := true, len := 0, timer := 1, pos := 2, sample := 0x3 } = 0 ∧
         waveOut 0x00 { on := true, len := 0, timer := 1, pos := 2, sample := 0x3 } = 0)) = true := by decide

/-- APU-19 and APU-20. -/
theorem test_apu_lfsr :
    lfsrStep false 0x7FFF = 0x3FFF ∧ lfsrStep false 0x0001 = 0x4000 ∧ lfsrStep true 0x7FFF = 0x3FBF := by decide

/-- APU-21 and APU-22. -/
theorem test_apu_power :
    (let a := Apu.reset.write .nr52 0x00
     let b := a.write .nr52 0x80
     decide (a.read .nr52 = 0x70 ∧ a.nr12 = 0x00 ∧ a.write .nr12 0xF0 = a ∧ b.read .nr52 = 0xF0 ∧ b.fsStep = 0)) = true := by decide

/-- APU-23: 0.25 of full scale is 120 of 480. -/
theorem test_apu_mix :
    (let p : Pulse := { on := true, len := 0, timer := 1, dutyPos := 0, vol := 15, envTimer := 0 }
     let a : Apu := { Apu.reset with nr22 := 0xF0, nr12 := 0, nr30 := 0, nr42 := 0, nr51 := 0x22, nr50 := 0x77, nr21 := 0x80, ch2 := p }
     let q : Apu := { a with ch2 := { a.ch2 with vol := 0 } }
     decide (a.mix .reference 0 = (120, 120) ∧ q.mix .reference 0 = (-120, -120) ∧ Apu.mix { q with nr22 := 0 } .reference 0 = (0, 0))) =
      true := by decide

/-- R162: a load that the rules refuse never starts. -/
theorem test_load_errors :
    (match launch .default ⟨0x8000, [(0x0147, 0x05)]⟩ none, launch .default ⟨0x7FFF, []⟩ none,
        launch .default ⟨0x8000, [(0x0149, 0x01)]⟩ none with
      | .error f, .error g, .error h => decide (f = .loadError (.cartType 0x05) ∧ g = .loadError (.shortImage 0x7FFF 0x8000) ∧
          h = .loadError (.ramSize 0x01))
      | _, _, _ => false) = true := by decide

/-! ## Witnesses: for every statement with hypotheses, states and operands that meet them, each clause at its bounds -/

/-- The base state with a stack pointer. -/
def withSp (sp : Word) : State := start [] { base with sp := sp } []

/-- The base state with A and F. -/
def withAF (a f : Byte) : State := start [] { base with a := a, f := f } []

/-- A result is a next state. -/
def isNext (r : Result) : Bool :=
  match r with
  | .next _ => true
  | _ => false

theorem witness_DecodeInvertsEncode : Instr.nop.wellFormed = true ∧ (Instr.callA16 0xFFFF).wellFormed = true := by decide

theorem witness_EncodeInvertsDecode : decode [0xCD, 0xFF, 0xFF] = .ok (.callA16 0xFFFF, []) := rfl

theorem witness_LoadPair : R16.hl ≠ R16.sp := by decide

theorem witness_StoreStackPointer : isNext (exec (.ldIndA16Sp 0xFFFE) (withSp 0xBEEF)) = true ∧
    isNext (exec (.ldIndA16Sp 0xFFFF) (withSp 0xBEEF)) = false := by decide

theorem witness_PushPair : isNext (exec .pushBc (withSp 0x0002)) = true ∧ isNext (exec .pushBc (withSp 0x0000)) = true ∧
    isNext (exec .pushBc (withSp 0x0001)) = false := by decide

theorem witness_PopPair : isNext (exec .popAf (withSp 0xFFFE)) = true ∧ isNext (exec .popAf (withSp 0xFFFF)) = false := by decide

theorem witness_PushThenPop : ∀ sp ∈ [(0xC002 : Word), 0xDFFF], ∃ t u, 0xC002 ≤ sp.toNat ∧ sp.toNat ≤ 0xDFFF ∧
    exec (Instr.pushStk .bc) (withSp sp) = .next t ∧ exec (Instr.popStk .af) t = .next u := by
  intro sp h
  have : sp = 0xC002 ∨ sp = 0xDFFF := by simpa using h
  rcases this with rfl | rfl <;> exact ⟨_, _, by decide, by decide, rfl, rfl⟩

theorem witness_SubSbcAndCp : ∀ op ∈ [AluOp.sub, .sbc, .cp], op = .sub ∨ op = .sbc ∨ op = .cp := by decide

theorem witness_AndXorOr : ∀ op ∈ [AluOp.and, .xor, .or], op = .and ∨ op = .xor ∨ op = .or := by decide

/-- The four pairs of tests of DAA: none, low, high, both. -/
theorem witness_DecimalAdjust :
    ([(0x99, 0x00), (0x0A, 0x00), (0xA0, 0x00), (0x9A, 0x00)].map (fun p : Byte × Byte =>
      let s := withAF p.1 p.2
      (s.cpu.flags.h || (!s.cpu.flags.n && decide (9 < s.cpu.a.toNat % 16)), s.cpu.flags.c || (!s.cpu.flags.n && decide (0x99 < s.cpu.a.toNat))))) =
      [(false, false), (true, false), (false, true), (true, true)] := by decide

theorem witness_DecimalAdjustAfterAddition : ∃ t u, (withAF 0x99 0x10).cpu.a = BitVec.ofNat 8 (99 / 10 * 16 + 99 % 10) ∧
    exec (Instr.aluD8 .adc (BitVec.ofNat 8 (99 / 10 * 16 + 99 % 10))) (withAF 0x99 0x10) = .next t ∧ exec .daa t = .next u :=
  ⟨_, _, rfl, rfl, rfl⟩

theorem witness_IncAndDecPair : R16.bc ≠ R16.sp := by decide

theorem witness_BitTests : ∀ b ∈ [0, 7], b < 8 := by decide

theorem witness_PrefixedRotatesAndShifts : (RotOp.rlc = .rlc ∨ RotOp.rlc = .rl ∨ RotOp.rlc = .sla) ∧
    ¬(RotOp.srl = .rlc ∨ RotOp.srl = .rl ∨ RotOp.srl = .sla) := by decide

theorem witness_ConditionalJumps : ∀ k, Cond.test k false false ∨ Cond.test k true true := by
  intro k; cases k <;> simp [Cond.test]

theorem witness_ConditionalJumps_not : ∀ k, ¬Cond.test k false false ∨ ¬Cond.test k true true := by
  intro k; cases k <;> simp [Cond.test]

theorem witness_CallsAndRestarts : isNext (exec (.callA16 0x2000) (withSp 0x0002)) = true ∧
    isNext (exec (.callA16 0x2000) (withSp 0x0001)) = false ∧ isNext (exec (.callZA16 0x2000) (withSp 0x0001)) = true ∧
    isNext (exec (.callNzA16 0x2000) (withSp 0x0001)) = false ∧ isNext (exec .rst38 (withSp 0x0001)) = false := by decide

theorem witness_Returns : isNext (exec .ret (withSp 0xFFFE)) = true ∧ isNext (exec .ret (withSp 0xFFFF)) = false ∧
    isNext (exec .retZ (withSp 0xFFFF)) = true ∧ isNext (exec .retNz (withSp 0xFFFF)) = false := by decide

/-- A NOP at a boundary, IME off; a NOP at the last address a one-byte fetch may have; an illegal opcode; IME on and nothing pending. -/
def boundaryNop : State := start [] base []

def boundaryTop : State := start [] { base with pc := 0xFFFE } []

def boundaryIllegal : State := start [(0xC000, 0xD3)] { base with ime := .enabled } []

theorem witness_StepRunsDecodedInstruction :
    (AtBoundary boundaryNop ∧ Undisturbed boundaryNop ∧ boundaryNop.cpu.pc ≠ 0xFFFE ∧
      decode [busRead boundaryNop 0xC000, busRead boundaryNop 0xC001, busRead boundaryNop 0xC002] = .ok (.nop, [0x00, 0x00])) ∧
    (AtBoundary boundaryTop ∧ boundaryTop.cpu.pc = 0xFFFE ∧
      decode [busRead boundaryTop 0xFFFE, busRead boundaryTop 0xFFFF, busRead boundaryTop 0x0000] = .ok (.nop, [0x00, 0x00])) ∧
    (Undisturbed boundaryIllegal ∧ boundaryIllegal.cpu.ime = .enabled ∧ exec .illegalD3 boundaryIllegal = .fault (.illegalOpcode 0xD3 boundaryIllegal.cpu.pc)) :=
  ⟨⟨⟨by decide, by decide, by decide⟩, .inl (by decide), by decide, by decide +kernel⟩,
    ⟨⟨by decide, by decide, by decide⟩, by decide, by decide +kernel⟩, ⟨.inr (by decide), by decide, rfl⟩⟩

/-- LD BC,d16 whose operand starts at 0xFFFF. -/
def operandAcross : State := start [] { base with pc := 0xFFFE } [(0xFFFE, 0x01)]

theorem witness_OperandAcrossTheTopFaults : AtBoundary operandAcross ∧ Undisturbed operandAcross ∧ operandAcross.cpu.pc = 0xFFFE ∧
    decode [busRead operandAcross 0xFFFE, busRead operandAcross 0xFFFF, busRead operandAcross 0x0000] = .ok (.ldBcD16 0x0000, []) :=
  ⟨⟨by decide, by decide, by decide⟩, .inl (by decide), by decide, by decide +kernel⟩

/-- Sources 0 and 4 alone, with a stack and with the stack at the wrap. -/
def interrupted (p : Byte) (sp : Word) : State :=
  { start [] { base with ime := .enabled, sp := sp } [(0xFFFF, 0x1F)] with ifReg := p }

theorem witness_InterruptDispatch :
    (AtBoundary (interrupted 0x01 0xFFFE) ∧ (interrupted 0x01 0xFFFE).cpu.sp ≠ 0x0001 ∧
      bit ((interrupted 0x01 0xFFFE).ie &&& (interrupted 0x01 0xFFFE).ifReg) 0 = true) ∧
    (AtBoundary (interrupted 0x10 0x0001) ∧ (interrupted 0x10 0x0001).cpu.ime = .enabled ∧
      bit ((interrupted 0x10 0x0001).ie &&& (interrupted 0x10 0x0001).ifReg) 4 = true ∧
      ∀ m, m < 4 → bit ((interrupted 0x10 0x0001).ie &&& (interrupted 0x10 0x0001).ifReg) m = false) :=
  ⟨⟨⟨by decide, by decide, by decide⟩, by decide, by decide⟩, ⟨⟨by decide, by decide, by decide⟩, by decide, by decide, by decide⟩⟩

/-- Asleep with no flag, asleep with a flag, and a slot with one M-cycle left. -/
theorem witness_BusyAndHaltedSteps :
    (let s (halted : Bool) (busy : Nat) (f : Byte) : State := { start [] { base with halted := halted, busy := busy } [] with ifReg := f }
     decide ((s false 1 0).fault = none ∧ (s false 1 0).cpu.busy = 0 + 1) && decide (wakes (s true 0 0x00) = false) &&
       decide (wakes (s true 0 0x10) = true) &&
       decide (wakes { s true 0 0x10 with params := { Params.default with haltWakeNeedsIe := true } } = false)) = true := by decide

/-- EI changes IME; a NOP fetched with IME Pending. -/
theorem witness_EnableLatency :
    (let p : State := { boundaryNop with cpu := { base with ime := .pending } }
     (match exec .ei boundaryNop with | .next t => decide (t.cpu.ime ≠ boundaryNop.cpu.ime) | _ => false) && isNext (runInstruction p) &&
       (match fetch p with | .ok i => decide (i = .nop) | .error _ => false) && decide (boundaryNop.cpu.ime ≠ .enabled)) = true := by
  decide

theorem witness_FaultsEndTheRun : (markFault (.unmodelledStop 0x0100) State.reset).fault = some (.unmodelledStop 0x0100) ∧
    isNext (step boundaryNop) = true := ⟨rfl, by decide⟩

theorem witness_EchoIsWorkRam : ([(0xC000 : Word), 0xDDFF].all fun c => decide (0xC000 ≤ c.toNat ∧ c.toNat < 0xDE00)) = true ∧
    ([(0xDE00 : Word), 0xDFFF].all fun c => decide (0xDE00 ≤ c.toNat ∧ c.toNat < 0xE000)) = true := by decide

/-- The bounds of every range of storage: unlocked video RAM and OAM, enabled cartridge RAM, work RAM, its echo, high RAM, IE. -/
theorem witness_StoredByteReadsBack :
    ([(0x8000 : Word), 0x9FFF, 0xA000, 0xBFFF, 0xC000, 0xFDFF, 0xFE00, 0xFE9F, 0xFF80, 0xFFFF].all fun a => decide ((0x8000 ≤ a.toNat ∧ a.toNat < 0xFF00 ∨ 0xFF80 ≤ a.toNat) ∧ ¬(0xFEA0 ≤ a.toNat ∧ a.toNat < 0xFF00))) = true ∧
    (atDot 0 300 .hblank).ppu.mode ≠ .transfer ∧ (atDot 0 300 .hblank).ppu.mode ≠ .oamScan ∧
    ramPresent (busWrite banked 0x0000 0x0A).cart (busWrite banked 0x0000 0x0A).mapper = true := by decide

/-- The bounds of every clause about I/O addresses; audio power on; SC writes that start and do not. -/
theorem witness_BusRouter :
    ([(0x0000 : Word), 0x7FFF, 0x8000, 0xFEFF, 0xFF80, 0xFFFE, 0xFFFF].all fun a => decide (a.toNat < 0xFF00 ∨ 0xFF80 ≤ a.toNat)) = true ∧
    ([(0xFF30 : Word), 0xFF3F].all fun a => decide (0xFF30 ≤ a.toNat ∧ a.toNat < 0xFF40)) = true ∧
    ([(0xFF08 : Word), 0xFF0E, 0xFF15, 0xFF1F, 0xFF27, 0xFF2F, 0xFF4C, 0xFF7F].all fun a => decide (ioRegAt (a.toNat - 0xFF00) = .unimplemented)) = true ∧
    State.reset.apu.power = true ∧ bit (0x81 : Byte) 7 = true ∧ bit (0x81 : Byte) 0 = true ∧ bit (0x80 : Byte) 0 = false := by decide +kernel

theorem witness_MapperBanking : State.reset.cart.kind = .noMapper ∧ banked.cart.kind = .bank ∧
    ([(0x0000 : Word), 0x1FFF, 0x2000, 0x3FFF, 0x4000, 0x5FFF, 0x6000, 0x7FFF].all fun a => decide (a.toNat < 0x8000)) = true := by decide

theorem witness_CartridgeRam : ([(0xA000 : Word), 0xBFFF].all fun a => decide (0xA000 ≤ a.toNat ∧ a.toNat < 0xC000)) = true ∧
    ramPresent banked.cart banked.mapper = false ∧ ramPresent banked.cart (busWrite banked 0x0000 0x0A).mapper = true := by decide

theorem witness_OamDmaCopiesThePage : ∀ n ∈ [0, 639], n < 640 ∧ ∀ i ∈ [0, 159], i < 160 := by decide

theorem witness_StepKeepsCartridgeAndHistory : ∃ t, step boundaryNop = .next t := by
  have h : isNext (step boundaryNop) = true := by decide
  cases hs : step boundaryNop with
  | next t => exact ⟨t, rfl⟩
  | fault f => rw [hs] at h; cases h
  | refused r => rw [hs] at h; cases h

/-- Timers whose selected bit falls in the next M-cycle, and does not; an overflow pending and not; a wrap and none. -/
theorem witness_TimerMcycle :
    ([(⟨0x000C, 0xFF, 0x42, 0x05, false⟩ : Timer), ⟨0x000C, 0x10, 0xFF, 0x05, true⟩, ⟨0xFFFC, 0xFF, 0x42, 0x04, false⟩, ⟨0x0008, 0xFF, 0x42, 0x05, false⟩].map
      (fun t => (t.input t.divider, t.input (t.divider + 4)))) = [(true, false), (true, false), (true, false), (true, true)] := by decide

/-- A selected bit that is 1 and one that is 0; a TAC write that makes it fall and one that does not. -/
theorem witness_TimerRegisterWrites :
    (let t : Timer := ⟨0x0008, 0xFF, 0x42, 0x05, false⟩
     (t.input t.divider, ({ t with tac := 0x01 } : Timer).input t.divider, ({ t with tac := 0x05 } : Timer).input t.divider)) =
      (true, false, true) := by decide

theorem witness_SerialTransfer : ∀ n ∈ [0, 1023], n < 1024 := by decide

/-- A pressed in an action-selected P1: a line falls. -/
theorem witness_JoypadRequests :
    (let s : State := { boundaryNop with joypad := { p1 := 0x10, buttons := .idle, p1Prev := 0xF }, buttonsIn := [{ Buttons.idle with btnA := true }] }
     decide (s.buttonsIn = { Buttons.idle with btnA := true } :: [] ∧ (joypadMcycle s).ifReg = 0x10)) = true := by decide

theorem witness_FrameTiming : ∀ p ∈ [(0, 0), (144, 0), (153, 455)], (atDot p.1 p.2 .vblank).ppu.lcdOn = true ∧
    (atDot p.1 p.2 .vblank).ppu.ly < 154 ∧ (atDot p.1 p.2 .vblank).ppu.dot < 456 := by decide

/-- The LCD off, and LCDC bytes that switch it off, on, and not. -/
theorem witness_FrameTiming_switch : ({ State.reset with ppu := { State.reset.ppu with lcdc := 0x11 } } : State).ppu.lcdOn = false ∧
    bit State.reset.ppu.lcdc 7 = true ∧ bit (0x11 : Byte) 7 = false ∧ bit (0x91 : Byte) 7 = true := by decide

theorem witness_StatInterrupt : State.reset.ppu.lcdOn = true := by decide

/-- Eleven entries on line 0: the eleventh is on the line and not found. -/
theorem witness_OamScanFindsTheFirstTen :
    (let oam : Memory := (List.range 11).map (fun i => (4 * i, (16 : Byte)))
     decide (oamScan 0 oam 0 = [0, 1, 2, 3, 4, 5, 6, 7, 8, 9] ∧ (oam.read (4 * 10)).toNat ≤ 0 + 16)) = true := by decide

theorem witness_ApuPower : State.reset.apu.power = true ∧ bit (0x7F : Byte) 7 = false := by decide

theorem witness_ApuChannelOff : Apu.reset.nr22 &&& 0xF8 = 0 ∧ Apu.reset.nr42 &&& 0xF8 = 0 ∧ bit Apu.reset.nr30 7 = false ∧
    (Apu.reset.write .nr12 0x00).nr12 &&& 0xF8 = 0 ∧ bit (0x80 : Byte) 7 = true ∧ Apu.reset.ch2.on = false := by decide

/-- A state with the LCD off that meets the invariant, and has a next state. -/
def quiet : State :=
  { boundaryNop with ppu := { State.reset.ppu with lcdc := 0, mode := .hblank } }

theorem blank_full : Frame.blank.full := by
  refine ⟨List.length_replicate, fun row h => ?_⟩
  rw [List.eq_of_mem_replicate h]
  exact List.length_replicate

theorem witness_StepKeepsTheInvariant : quiet.Inv ∧ ∃ t, step quiet = .next t := by
  constructor
  · exact
      { cpu := ⟨by decide, by decide⟩
        if_bits := by decide
        timer := ⟨by decide⟩
        serial := ⟨by decide, by decide, by decide, by decide, fun h => absurd h (by decide)⟩
        joypad := ⟨by decide⟩
        dma := ⟨by decide, fun h => absurd h (by decide), by decide, fun h => absurd h (by decide)⟩
        ppu :=
          { stat_bits := by decide
            ly_lt := by decide
            dot_lt := by decide
            cand_le := by decide
            cand_lt := fun i h => absurd h (List.not_mem_nil)
            mode3_ge := by decide
            mode3_le := by decide
            work_full := blank_full
            pub_full := fun f h => nomatch h
            off := fun _ => ⟨rfl, rfl, rfl⟩
            in_line := fun _ h => absurd h (by decide)
            in_vblank := fun _ h => absurd h (by decide) }
        apu :=
          { ch1 := ⟨by decide, by decide, by decide, by decide⟩
            ch2 := ⟨by decide, by decide, by decide, by decide⟩
            ch3 := ⟨by decide, by decide⟩
            ch4 := ⟨by decide, by decide, by decide⟩
            sweep := ⟨by decide, by decide⟩
            fs_lt := by decide
            acc_lt := by decide
            wave_wf := Memory.wf_nil
            wave_within := fun c h => absurd h (List.not_mem_nil)
            power_off := fun h => absurd h (by decide) }
        vram_wf := by decide
        vram_within := by decide
        oam_wf := by decide
        oam_within := by decide
        wram_wf := by decide
        wram_within := by decide
        hram_wf := by decide
        hram_within := by decide
        ram_wf := by decide
        ram_within := by decide }
  · have h : isNext (step quiet) = true := by decide
    cases hs : step quiet with
    | next t => exact ⟨t, rfl⟩
    | fault f => rw [hs] at h; cases h
    | refused r => rw [hs] at h; cases h

/-- A header that is refused for its RAM-size byte and one that is not; a battery cartridge with a save file longer than its RAM. -/
theorem witness_LaunchFromHeader : launch Params.default ⟨0x8000, []⟩ none = .ok State.reset ∧
    (Memory.read [(0x0149, 0x01)] 0x0149 : Byte) ∉ [(0x00 : Byte), 0x02, 0x03, 0x04, 0x05] ∧
    (match launch Params.default ⟨0x8000, [(0x0147, 0x03), (0x0149, 0x02)]⟩ (some ⟨0x2001, [(0x1FFF, 0x5A), (0x2000, 0xA5)]⟩) with
      | .ok s => decide (s.cart.ramBanks = 1 ∧ s.cart.kind = .bank ∧ s.mapper.ram = [(0x1FFF, 0x5A)])
      | .error _ => false) = true := ⟨rfl, by decide, by decide⟩

end Sys2Proof.Tests
end

section
/-! SUPPORT. The invariant through a whole step (10_state.md), and what CPU writes to the timer registers do (60_exceptions.md R524, R525). -/

namespace Sys2Proof.Machine

/-! ## Every step keeps the invariant -/

theorem handleInterrupt_inv {s t : State} (h : s.Inv) (e : handleInterrupt s = some (.next t)) : t.Inv := by
  unfold handleInterrupt at e
  split at e
  · exact enterInterrupt_inv h (Option.some.inj e)
  · cases e

theorem executeInstruction_inv {s t : State} (h : s.Inv) (e : executeInstruction s = .next t) : t.Inv := by
  unfold executeInstruction at e
  split at e
  · cases e
  · exact exec_inv h e

theorem promoteIme_inv {s : State} (h : s.Inv) (ime0 : Ime) : (promoteIme ime0 s).Inv := by
  unfold promoteIme
  split
  · exact h.withCpu ⟨h.cpu.f_low, h.cpu.busy_le⟩
  · exact h

theorem runInstruction_inv {s t : State} (h : s.Inv) (e : runInstruction s = .next t) : t.Inv := by
  unfold runInstruction at e
  split at e <;> cases e
  rename_i u hu
  exact promoteIme_inv (executeInstruction_inv h hu) _

theorem cpuStep_inv {s t : State} (h : s.Inv) (e : cpuStep s = .next t) : t.Inv := by
  unfold cpuStep at e
  split at e
  · rename_i r hr
    exact handleInterrupt_inv h (e ▸ hr)
  · exact runInstruction_inv h e

/-- The CPU's part of an M-cycle: a slot M-cycle passes, the CPU sleeps on, or it wakes and steps (R520). -/
theorem cpuMcycle_inv {s t : State} (h : s.Inv) (e : cpuMcycle s = .next t) : t.Inv := by
  unfold cpuMcycle at e
  split at e
  · cases e
    exact h.withCpu ⟨h.cpu.f_low, (Nat.sub_le _ 1).trans h.cpu.busy_le⟩
  · split at e
    · cases e
      exact h
    · refine cpuStep_inv (h.withCpu ?_) e
      exact ⟨h.cpu.f_low, h.cpu.busy_le⟩

theorem machineStep_inv {s t : State} (h : s.Inv) (e : machineStep s = .next t) : t.Inv := by
  unfold machineStep at e
  split at e
  · cases e
  · split at e <;> cases e
    rename_i u hu
    exact devices_inv (cpuMcycle_inv h hu)

/-- Settles O59: the CPU's part of an M-cycle keeps the invariant, whatever it does, and so do the devices. -/
theorem stepKeepsTheInvariant : Obligations.StepKeepsTheInvariant := fun _ _ => machineStep_inv

/-! ## CPU writes to the timer registers -/

/-- TAC[1:0] selects the divider bit by the table of R522. -/
theorem Timer.sel_eq (tac : Byte) : Timer.sel tac = [9, 3, 5, 7].getD (tac.toNat % 4) 0 := by
  revert tac
  decide

/-- `TimerIn(d)` in numbers (R522): TAC[2] and the selected divider bit are both 1. -/
theorem Timer.input_iff (t : Timer) (d : Word) :
    t.input d = true ↔ t.tac.toNat / 4 % 2 = 1 ∧ d.toNat / 2 ^ [9, 3, 5, 7].getD (t.tac.toNat % 4) 0 % 2 = 1 := by
  simp [Timer.input, bit, BitVec.getLsbD, Nat.testBit_eq_decide_div_mod_eq, Timer.sel_eq]

/-- TAC stores the byte modulo 8 (R47). -/
theorem tacBits_eq (v : Byte) : v &&& 0x07 = BitVec.ofNat 8 (v.toNat % 8) := by
  revert v
  decide

@[simp] theorem Timer.inc_tma (t : Timer) : t.inc.tma = t.tma := by unfold Timer.inc; split <;> rfl

@[simp] theorem Timer.inc_tima (t : Timer) : t.inc.tima = t.tima + 1 := by
  unfold Timer.inc
  split
  · rename_i h
    rw [h]
    rfl
  · rfl

@[simp] theorem Timer.inc_overflowPending (t : Timer) :
    t.inc.overflowPending = (t.overflowPending || decide (t.tima = 0xFF)) := by
  unfold Timer.inc
  split
  · rename_i h
    simp [h]
  · rename_i h
    rw [decide_eq_false h, Bool.or_false]

@[simp] theorem Timer.divWrite_tma (t : Timer) : t.divWrite.tma = t.tma := by unfold Timer.divWrite; split <;> simp

@[simp] theorem Timer.divWrite_divider (t : Timer) : t.divWrite.divider = 0 := by unfold Timer.divWrite; split <;> simp

@[simp] theorem Timer.tacWrite_tma (t : Timer) (v : Byte) : (t.tacWrite v).tma = t.tma := by
  unfold Timer.tacWrite; dsimp only; split <;> simp

@[simp] theorem Timer.tacWrite_divider (t : Timer) (v : Byte) : (t.tacWrite v).divider = t.divider := by
  unfold Timer.tacWrite; dsimp only; split <;> simp

/-- From `t` to `u` TIMA counts once on an edge, with a wrap left pending (R522), and keeps still without one. -/
def Timer.CountsOn (edge : Prop) (t u : Timer) : Prop :=
  (edge → u.tima = t.tima + 1 ∧ u.overflowPending = (t.overflowPending || decide (t.tima = 0xFF))) ∧
  (¬edge → u.tima = t.tima ∧ u.overflowPending = t.overflowPending)

/-- Clearing the divider makes the selected bit fall when it was 1 (R525). -/
theorem Timer.divWrite_counts (t : Timer) : Timer.CountsOn (t.input t.divider = true) t t.divWrite := by
  unfold Timer.divWrite
  split
  · rename_i h
    exact ⟨fun _ => ⟨by simp, by simp⟩, absurd h⟩
  · rename_i h
    exact ⟨(absurd · h), fun _ => ⟨rfl, rfl⟩⟩

/-- A TAC write makes the input fall when it was 1 under the old TAC and is not under the new one (R525). -/
theorem Timer.tacWrite_counts (t : Timer) (v : Byte) :
    Timer.CountsOn (t.input t.divider = true ∧ ¬({ t with tac := v &&& 0x07 } : Timer).input t.divider = true) t
      (t.tacWrite v) := by
  unfold Timer.tacWrite
  dsimp only
  split
  · rename_i h
    exact ⟨fun _ => ⟨by simp, by simp⟩, absurd (by simpa using h)⟩
  · rename_i h
    exact ⟨fun e => absurd (by simpa using e) h, fun _ => ⟨rfl, rfl⟩⟩

/-- Settles O50: each write is its register's operation on the timer, and DIV and TAC writes count on a falling edge. -/
theorem timerRegisterWrites : Obligations.TimerRegisterWrites := by
  intro s v
  have hdiv : busWrite s 0xFF04 v = ioWrite s .div v := busWrite_ioReg s v (by simp [ioRegAt])
  have htima : busWrite s 0xFF05 v = ioWrite s .tima v := busWrite_ioReg s v (by simp [ioRegAt])
  have htma : busWrite s 0xFF06 v = ioWrite s .tma v := busWrite_ioReg s v (by simp [ioRegAt])
  have htac : busWrite s 0xFF07 v = ioWrite s .tac v := busWrite_ioReg s v (by simp [ioRegAt])
  have cdiv := s.timer.divWrite_counts
  have ctac := s.timer.tacWrite_counts v
  rw [Timer.input_iff] at cdiv
  rw [Timer.input_iff, Timer.input_iff, tacBits_eq] at ctac
  rw [hdiv, htima, htma, htac]
  refine ⟨?_, rfl, rfl, ?_⟩
  · exact ⟨s.timer.divWrite_divider, s.timer.divWrite_tma, s.timer.divWrite_tac, cdiv⟩
  · exact ⟨(s.timer.tacWrite_tac v).trans (tacBits_eq v), s.timer.tacWrite_divider v, s.timer.tacWrite_tma v, ctac⟩

end Sys2Proof.Machine
end

section
/-! SUPPORT. Memory (20_memory.md): the rest of the router's rules, one per owner, and the statements about work RAM, storage, the
mappers and cartridge RAM. -/

namespace Sys2Proof.Machine

/-! ## The router, owner by owner (R102) -/

theorem Ppu.inMode_iff (p : Ppu) (m : PpuMode) : p.inMode m = true ↔ p.lcdOn = true ∧ p.mode = m := by
  simp [Ppu.inMode]

theorem busRead_vram (s : State) {a : Word} (h1 : 0x8000 ≤ a.toNat) (h2 : a.toNat < 0xA000) :
    busRead s a = if s.params.lockoutReadFF = true ∧ s.ppu.lcdOn = true ∧ s.ppu.mode = .transfer then 0xFF
      else s.vram.read (a.toNat - 0x8000) := by
  unfold busRead busReadWith
  rw [(regionOf_iff a .vram).mpr ⟨h1, h2⟩]
  simp [Ppu.inMode_iff]

theorem busWrite_vram (s : State) {a : Word} (h1 : 0x8000 ≤ a.toNat) (h2 : a.toNat < 0xA000) (v : Byte) :
    busWrite s a v = if s.ppu.lcdOn = true ∧ s.ppu.mode = .transfer then s
      else { s with vram := s.vram.write (a.toNat - 0x8000) v } := by
  unfold busWrite
  rw [(regionOf_iff a .vram).mpr ⟨h1, h2⟩]
  simp only [Ppu.inMode_iff]

theorem busRead_cartRam (s : State) {a : Word} (h1 : 0xA000 ≤ a.toNat) (h2 : a.toNat < 0xC000) :
    busRead s a = cartRamRead s.cart s.mapper a.toNat := by
  unfold busRead busReadWith
  rw [(regionOf_iff a .cartRam).mpr ⟨h1, h2⟩]

theorem busWrite_cartRam (s : State) {a : Word} (h1 : 0xA000 ≤ a.toNat) (h2 : a.toNat < 0xC000) (v : Byte) :
    busWrite s a v = cartRamWrite s a.toNat v := by
  unfold busWrite
  rw [(regionOf_iff a .cartRam).mpr ⟨h1, h2⟩]

theorem busRead_oam (s : State) {a : Word} (h1 : 0xFE00 ≤ a.toNat) (h2 : a.toNat < 0xFEA0) :
    busRead s a = if s.params.lockoutReadFF = true ∧ s.ppu.lcdOn = true ∧ s.ppu.mode = .oamScan then 0xFF
      else s.oam.read (a.toNat - 0xFE00) := by
  unfold busRead busReadWith
  rw [(regionOf_iff a .oam).mpr ⟨h1, h2⟩]
  simp [Ppu.inMode_iff]

theorem busWrite_oam (s : State) {a : Word} (h1 : 0xFE00 ≤ a.toNat) (h2 : a.toNat < 0xFEA0) (v : Byte) :
    busWrite s a v = if s.ppu.lcdOn = true ∧ s.ppu.mode = .oamScan then s
      else { s with oam := s.oam.write (a.toNat - 0xFE00) v } := by
  unfold busWrite
  rw [(regionOf_iff a .oam).mpr ⟨h1, h2⟩]
  simp only [Ppu.inMode_iff]

theorem busRead_prohibited (s : State) {a : Word} (h1 : 0xFEA0 ≤ a.toNat) (h2 : a.toNat < 0xFF00) :
    busRead s a = if s.ppu.lcdOn = true ∧ (s.ppu.mode = .oamScan ∨ s.ppu.mode = .transfer) then 0xFF else 0x00 := by
  unfold busRead busReadWith
  rw [(regionOf_iff a .prohibited).mpr ⟨h1, h2⟩]
  simp only [prohibitedRead, Bool.or_eq_true, Ppu.inMode_iff, and_or_left]

theorem busWrite_prohibited (s : State) {a : Word} (h1 : 0xFEA0 ≤ a.toNat) (h2 : a.toNat < 0xFF00) (v : Byte) :
    busWrite s a v = s := by
  unfold busWrite
  rw [(regionOf_iff a .prohibited).mpr ⟨h1, h2⟩]

theorem regionOf_top {a : Word} (h : 0xFFFF ≤ a.toNat) : regionOf a = .ie := (regionOf_iff a .ie).mpr ⟨h, a.isLt⟩

theorem busRead_ie (s : State) {a : Word} (h : 0xFFFF ≤ a.toNat) : busRead s a = s.ie := by
  unfold busRead busReadWith
  rw [regionOf_top h]

theorem busWrite_ie (s : State) {a : Word} (h : 0xFFFF ≤ a.toNat) (v : Byte) : busWrite s a v = { s with ie := v } := by
  unfold busWrite
  rw [regionOf_top h]

/-! ## Work RAM and its echo (R114) -/

theorem echo_toNat {c : Word} (h : c.toNat < 0xDE00) : (c + 0x2000).toNat = c.toNat + 0x2000 := by
  rw [BitVec.toNat_add, show (0x2000 : Word).toNat = 0x2000 from rfl]
  omega

theorem busRead_echoOf (s : State) {c : Word} (h1 : 0xC000 ≤ c.toNat) (h2 : c.toNat < 0xDE00) :
    busRead s (c + 0x2000) = busRead s c := by
  have e := echo_toNat h2
  rw [busRead_wram s h1 (by omega), busRead_echo s (by omega) (by omega), e, Nat.add_sub_cancel]

theorem busWrite_echoOf (s : State) {c : Word} (h1 : 0xC000 ≤ c.toNat) (h2 : c.toNat < 0xDE00) (v : Byte) :
    busWrite s (c + 0x2000) v = busWrite s c v := by
  have e := echo_toNat h2
  rw [busWrite_wram s h1 (by omega), busWrite_echo s (by omega) (by omega), e, Nat.add_sub_cancel]

theorem busRead_busWrite_wram (s : State) {c : Word} (h1 : 0xC000 ≤ c.toNat) (h2 : c.toNat < 0xE000) (v : Byte) :
    busRead (busWrite s c v) c = v := by
  rw [busWrite_wram s h1 h2, busRead_wram _ h1 h2, Memory.read_write_same]

/-- Settles O43: both addresses of a work-RAM byte reach one offset of the array, and the last 0x200 bytes have no twin. -/
theorem echoIsWorkRam : Obligations.EchoIsWorkRam := by
  intro s c v h1 h2
  have same := busRead_busWrite_wram s h1 h2 v
  refine ⟨fun h => ?_, fun h => ⟨same, fun b hb => ?_⟩⟩
  · exact ⟨busRead_echoOf s h1 h, busWrite_echoOf s h1 h v, (busRead_echoOf _ h1 h).trans same,
      (congrArg (busRead · c) (busWrite_echoOf s h1 h v)).trans same⟩
  · exact busRead_busWrite_ne s v (.inl ⟨by omega, by omega⟩) hb (by unfold EchoTwin; omega)

/-! ## The cartridge (R151 to R156) -/

theorem ramPresent_iff (c : Cartridge) (m : Mapper) :
    ramPresent c m = true ↔ c.kind = .bank ∧ m.ramEnable = true ∧ 0 < c.ramBanks := by
  unfold ramPresent
  cases c.kind <;> simp

theorem cartRamRead_present {c : Cartridge} {m : Mapper} (h : ramPresent c m = true) (n : Nat) :
    cartRamRead c m n = m.ram.read (ramOffset c m n) := if_pos h

theorem cartRamRead_absent {c : Cartridge} {m : Mapper} (h : ¬ramPresent c m = true) (n : Nat) : cartRamRead c m n = 0xFF :=
  if_neg h

theorem cartRamWrite_absent {s : State} (h : ¬ramPresent s.cart s.mapper = true) (n : Nat) (v : Byte) : cartRamWrite s n v = s :=
  if_neg h

/-- A store that cartridge RAM answers: the byte at the banked offset, and on a battery cartridge one record (R156). -/
theorem cartRamWrite_present {s : State} (h : ramPresent s.cart s.mapper = true) (n : Nat) (v : Byte) :
    cartRamWrite s n v = { s with
      mapper := { s.mapper with ram := s.mapper.ram.write (ramOffset s.cart s.mapper n) v }
      out := if s.cart.battery then { s.out with persist := (ramOffset s.cart s.mapper n, v) :: s.out.persist } else s.out } :=
  if_pos h

theorem cartRamRead_cartRamWrite {s : State} (h : ramPresent s.cart s.mapper = true) (n : Nat) (v : Byte) :
    cartRamRead (cartRamWrite s n v).cart (cartRamWrite s n v).mapper n = v := by
  rw [cartRamWrite_present h]
  exact (if_pos h).trans (Memory.read_write_same _ _ _)

/-- Settles O46: the two cases of `ramPresent`. -/
theorem cartridgeRam : Obligations.CartridgeRam := by
  intro s a v h1 h2 off answers
  have present : ramPresent s.cart s.mapper = true ↔ answers := ramPresent_iff _ _
  rw [busRead_cartRam s h1 h2, busWrite_cartRam s h1 h2]
  refine ⟨fun h => ?_, fun h => ?_⟩
  · have h := present.mpr h
    rw [cartRamRead_present h, cartRamWrite_present h]
    refine ⟨rfl, Memory.read_write_same _ _ _, fun k hk => Memory.read_write_ne _ _ hk, ?_⟩
    exact apply_ite Observed.persist _ _ _
  · have h := mt present.mp h
    exact ⟨cartRamRead_absent h _, cartRamWrite_absent h _ _⟩

/-- RAM is enabled by the low nibble 0xA (R153). -/
theorem lowNibble_eq_iff : ∀ v : Byte, v &&& 0x0F = 0x0A ↔ v.toNat % 16 = 10 := by decide

theorem mapperRegWrite_noMapper {c : Cartridge} (h : c.kind = .noMapper) (m : Mapper) (n : Nat) (v : Byte) :
    mapperRegWrite c m n v = m := by
  unfold mapperRegWrite
  rw [h]

/-- The four write ranges of the bank-switching mapper (R153 to R155). -/
theorem mapperRegWrite_bank {c : Cartridge} (h : c.kind = .bank) (m : Mapper) (n : Nat) (v : Byte) :
    mapperRegWrite c m n v =
      if n < 0x2000 then { m with ramEnable := decide (v.toNat % 16 = 10) }
      else if n < 0x4000 then { m with romBankReg := BitVec.ofNat 5 (v.toNat % 32) }
      else if n < 0x6000 then { m with ramBankReg := BitVec.ofNat 2 (v.toNat % 4) }
      else m := by
  have h5 : v.truncate 5 = BitVec.ofNat 5 (v.toNat % 32) := BitVec.eq_of_toNat_eq (by simp)
  have h2 : v.truncate 2 = BitVec.ofNat 2 (v.toNat % 4) := BitVec.eq_of_toNat_eq (by simp)
  unfold mapperRegWrite
  rw [h]
  simp only [lowNibble_eq_iff, h5, h2]

theorem romOffset_noMapper {c : Cartridge} (h : c.kind = .noMapper) (m : Mapper) (n : Nat) : romOffset c m n = n := by
  unfold romOffset
  rw [h]

theorem effRomBank_eq (c : Cartridge) (m : Mapper) :
    effRomBank c m = (if m.romBankReg.toNat = 0 then 1 else m.romBankReg.toNat) % c.romBanks := by
  unfold effRomBank
  simp only [← BitVec.toNat_inj, BitVec.ofNat_eq_ofNat, BitVec.toNat_ofNat, Nat.zero_mod]

theorem romOffset_bank {c : Cartridge} (h : c.kind = .bank) (m : Mapper) (n : Nat) :
    romOffset c m n = if n < 0x4000 then n else effRomBank c m * 0x4000 + (n - 0x4000) := by
  unfold romOffset
  rw [h]

/-- Settles O45: the mapper's write ranges and read windows, by the mapper's kind. -/
theorem mapperBanking : Obligations.MapperBanking := by
  intro s a v h
  rw [busRead_rom s h, busWrite_rom s h, romRead]
  refine ⟨fun k => ?_, fun k => ?_⟩
  · rw [mapperRegWrite_noMapper k, romOffset_noMapper k]
    exact ⟨rfl, rfl⟩
  · rw [mapperRegWrite_bank k, romOffset_bank k, effRomBank_eq]
    refine ⟨fun h1 => ?_, fun h1 h2 => ?_, fun h1 h2 => ?_, fun h1 => ?_, fun h1 => ?_, fun h1 => ?_⟩
    · rw [if_pos h1]
    · rw [if_neg (by omega), if_pos h2]
    · rw [if_neg (by omega), if_neg (by omega), if_pos h2]
    · rw [if_neg (by omega), if_neg (by omega), if_neg (by omega)]
    · rw [if_pos h1]
    · rw [if_neg (by omega)]

/-! ## Read after write (R131) -/

/-- Settles O44: the frame is `busRead_busWrite_ne`; the byte itself is read back owner by owner. -/
theorem storedByteReadsBack : Obligations.StoredByteReadsBack := by
  intro s a v plain vramFree oamFree ramAnswers hasStorage
  refine ⟨?_, fun b hb he => busRead_busWrite_ne s v plain hb he⟩
  have hn := regionOf_holds a
  unfold PlainAddress at plain
  cases hr : regionOf a <;> simp only [hr, Region.bounds] at hn
  case rom0 => omega
  case romX => omega
  case io => omega
  case prohibited => exact absurd hn hasStorage
  case vram =>
    have free : ¬(s.ppu.lcdOn = true ∧ s.ppu.mode = .transfer) := fun h => vramFree hn.1 hn.2 h.1 h.2
    rw [busWrite_vram s hn.1 hn.2, if_neg free, busRead_vram _ hn.1 hn.2, if_neg (fun h => free h.2), Memory.read_write_same]
  case oam =>
    have free : ¬(s.ppu.lcdOn = true ∧ s.ppu.mode = .oamScan) := fun h => oamFree hn.1 hn.2 h.1 h.2
    rw [busWrite_oam s hn.1 hn.2, if_neg free, busRead_oam _ hn.1 hn.2, if_neg (fun h => free h.2), Memory.read_write_same]
  case cartRam =>
    rw [busWrite_cartRam s hn.1 hn.2, busRead_cartRam _ hn.1 hn.2]
    exact cartRamRead_cartRamWrite (ramAnswers hn.1 hn.2) _ v
  case wram0 => exact busRead_busWrite_wram s (by omega) (by omega) v
  case wram1 => exact busRead_busWrite_wram s (by omega) (by omega) v
  case echo => rw [busWrite_echo s hn.1 hn.2, busRead_echo _ hn.1 hn.2, Memory.read_write_same]
  case hram => rw [busWrite_hram s hn.1 hn.2, busRead_hram _ hn.1 hn.2, Memory.read_write_same]
  case ie => rw [busWrite_ie s hn.1, busRead_ie _ hn.1]

end Sys2Proof.Machine
end

section
/-! SUPPORT. A fetch across the top of memory (20_memory.md R106), and what no step takes back: the cartridge, the parameters and what
the host has seen. -/

namespace Sys2Proof.Machine

/-! ## A step that faults in its fetch -/

/-- At an undisturbed boundary a fetch that faults is the step's fault. -/
theorem step_fetch_fault {s : State} {f : Fault} (hb : AtBoundary s) (hu : Undisturbed s) (h : fetch s = .error f) :
    step s = .fault f := by
  unfold step machineStep
  rw [hb.1, cpuMcycle_boundary hb, cpuStep, handleInterrupt_none hu, runInstruction, executeInstruction, h]

/-- Settles O37: three bytes read and none left over means a 16-bit operand, and that starts at 0xFFFF. -/
theorem operandAcrossTheTopFaults : Obligations.OperandAcrossTheTopFaults := by
  intro s i hb hu hpc hd
  refine step_fetch_fault hb hu ?_
  rcases decode_cases hd with ⟨op, e, -⟩ | ⟨op, n, k, e, -, -⟩ | ⟨op, lo, hi, k, e, hk, -⟩ | ⟨op, n, e, -, -⟩
  · simp at e
  · simp at e
  · have hop : op = busRead s 0xFFFE := (List.cons.inj e).1.symm
    rw [hop, ← hpc] at hk
    exact fetch_wrap hk hpc
  · simp at e

/-! ## What no step takes back (R110, R8, R156) -/

/-- From `s` to `t` the cartridge and the parameters stay, and each stream to the host, newest first, only gains entries. -/
structure Remembers (s t : State) : Prop where
  cart : t.cart = s.cart
  params : t.params = s.params
  persist : s.out.persist <:+ t.out.persist
  serialOut : s.out.serialOut <:+ t.out.serialOut
  samples : s.out.samples <:+ t.out.samples

theorem Remembers.trans {s t u : State} (h : Remembers s t) (k : Remembers t u) : Remembers s u :=
  ⟨k.cart.trans h.cart, k.params.trans h.params, h.persist.trans k.persist, h.serialOut.trans k.serialOut,
    h.samples.trans k.samples⟩

theorem Remembers.of_out {s t : State} (hc : t.cart = s.cart) (hp : t.params = s.params) (ho : t.out = s.out) : Remembers s t := by
  refine ⟨hc, hp, ?_, ?_, ?_⟩ <;> rw [ho]

theorem Remembers.refl (s : State) : Remembers s s := .of_out rfl rfl rfl

theorem cartRamWrite_remembers (s : State) (n : Nat) (v : Byte) : Remembers s (cartRamWrite s n v) := by
  unfold cartRamWrite
  split
  · cases s.cart.battery
    · exact .of_out rfl rfl rfl
    · exact ⟨rfl, rfl, List.suffix_cons _ _, List.suffix_rfl, List.suffix_rfl⟩
  · exact .refl s

theorem scWrite_remembers (s : State) (v : Byte) : Remembers s (scWrite s v) := by
  unfold scWrite
  split
  · exact ⟨rfl, rfl, List.suffix_rfl, List.suffix_cons _ _, List.suffix_rfl⟩
  · exact .of_out rfl rfl rfl

theorem ioWrite_remembers (s : State) (r : IoReg) (v : Byte) : Remembers s (ioWrite s r v) := by
  cases r
  case sc => exact scWrite_remembers s v
  all_goals exact .of_out rfl rfl rfl

theorem busWrite_remembers (s : State) (a : Word) (v : Byte) : Remembers s (busWrite s a v) := by
  unfold busWrite
  dsimp only
  cases regionOf a
  case vram => dsimp only; split <;> exact .of_out rfl rfl rfl
  case oam => dsimp only; split <;> exact .of_out rfl rfl rfl
  case cartRam => exact cartRamWrite_remembers s _ v
  case io => exact ioWrite_remembers s _ v
  all_goals exact .of_out rfl rfl rfl

theorem Stored.remembers {s w : State} (h : Stored s w) : Remembers s w := by
  cases h with
  | none => exact .refl s
  | one a v => exact busWrite_remembers s a v
  | two a b v w => exact (busWrite_remembers s a v).trans (busWrite_remembers _ b w)

theorem Remembers.withCpu {s t : State} (h : Remembers s t) (c : Cpu) : Remembers s { t with cpu := c } :=
  ⟨h.cart, h.params, h.persist, h.serialOut, h.samples⟩

theorem Effect.remembers {k : Bool} {s t : State} (h : Effect k s t) : Remembers s t := h.stored.remembers.withCpu t.cpu

theorem handleInterrupt_remembers {s t : State} (h : handleInterrupt s = some (.next t)) : Remembers s t := by
  unfold handleInterrupt at h
  split at h
  · rcases enterInterrupt_cases (lowestSet s.serviceable) s with ⟨_, e⟩ | ⟨_, e⟩ <;> rw [e] at h <;> cases h
    have cleared : Remembers s { s with ifReg := s.ifReg &&& ~~~((1 : Byte) <<< lowestSet s.serviceable) } := .of_out rfl rfl rfl
    exact ((cleared.trans (busWrite_remembers _ _ _)).trans (busWrite_remembers _ _ _)).withCpu _
  · cases h

theorem executeInstruction_remembers {s t : State} (h : executeInstruction s = .next t) : Remembers s t := by
  unfold executeInstruction at h
  split at h
  · cases h
  · exact (exec_effect h).remembers

theorem promoteIme_remembers (ime0 : Ime) (s : State) : Remembers s (promoteIme ime0 s) := by
  unfold promoteIme
  split <;> exact .of_out rfl rfl rfl

theorem runInstruction_remembers {s t : State} (h : runInstruction s = .next t) : Remembers s t := by
  unfold runInstruction at h
  split at h <;> cases h
  rename_i u hu
  exact (executeInstruction_remembers hu).trans (promoteIme_remembers _ u)

theorem cpuStep_remembers {s t : State} (h : cpuStep s = .next t) : Remembers s t := by
  unfold cpuStep at h
  split at h
  · rename_i r hr
    exact handleInterrupt_remembers (h ▸ hr)
  · exact runInstruction_remembers h

theorem cpuMcycle_remembers {s t : State} (h : cpuMcycle s = .next t) : Remembers s t := by
  unfold cpuMcycle at h
  split at h
  · cases h
    exact .of_out rfl rfl rfl
  · split at h
    · cases h
      exact .refl s
    · have awake : Remembers s { s with cpu := { s.cpu with halted := false } } := .of_out rfl rfl rfl
      exact awake.trans (cpuStep_remembers h)

theorem ppuDot_remembers (s : State) : Remembers s (ppuDot s) := by
  rw [ppuDot_eq]
  exact .of_out rfl rfl rfl

theorem apuMcycle_remembers (s : State) : Remembers s (apuMcycle s) :=
  ⟨rfl, rfl, List.suffix_rfl, List.suffix_rfl, List.suffix_append _ _⟩

theorem timerMcycle_remembers (s : State) : Remembers s (timerMcycle s) := by
  rw [timerMcycle_eq]
  exact .of_out rfl rfl rfl

theorem serialMcycle_remembers (s : State) : Remembers s (serialMcycle s) := by
  rw [serialMcycle_eq]
  exact .of_out rfl rfl rfl

theorem joypadMcycle_remembers (s : State) : Remembers s (joypadMcycle s) := by
  rw [joypadMcycle_eq]
  exact .of_out rfl rfl rfl

/-- Of the devices the audio unit alone adds to what the host sees. -/
theorem devices_remembers (s : State) : Remembers s (devices s) :=
  (ppuDot_remembers s).trans <| (ppuDot_remembers _).trans <| (ppuDot_remembers _).trans <| (ppuDot_remembers _).trans <|
  (apuMcycle_remembers _).trans <| (timerMcycle_remembers _).trans <| (serialMcycle_remembers _).trans <|
  joypadMcycle_remembers _

theorem machineStep_remembers {s t : State} (h : machineStep s = .next t) : Remembers s t := by
  unfold machineStep at h
  split at h
  · cases h
  · split at h <;> cases h
    rename_i u hu
    exact (cpuMcycle_remembers hu).trans (devices_remembers u)

/-- Settles O48: the CPU's part of an M-cycle remembers, whatever it does, and so does each device. -/
theorem stepKeepsCartridgeAndHistory : Obligations.StepKeepsCartridgeAndHistory := by
  intro s t h
  obtain ⟨cart, params, persist, serialOut, samples⟩ := machineStep_remembers h
  exact ⟨cart, params, Exists.imp (fun _ => Eq.symm) persist, Exists.imp (fun _ => Eq.symm) serialOut,
    Exists.imp (fun _ => Eq.symm) samples⟩

end Sys2Proof.Machine
end

section
/-! SUPPORT. OAM DMA (20_memory.md R120 to R122): a transfer dot by dot. -/

namespace Sys2Proof.Machine

/-! ## The engine's reads -/

/-- Of OAM and the engine a read sees only the byte at an OAM address and the register (R122). -/
theorem busReadDma_setOamDma (s : State) (m : Memory) {d : Dma} {a : Word} (hd : d.reg = s.dma.reg)
    (hm : regionOf a = .oam → m.read (a.toNat - 0xFE00) = s.oam.read (a.toNat - 0xFE00)) :
    busReadDma { s with oam := m, dma := d } a = busReadDma s a := by
  unfold busReadDma busReadWith
  cases hr : regionOf a
  case oam => exact hm hr
  case io =>
    dsimp only
    cases ioRegAt (a.toNat - 0xFF00)
    case dma => exact hd
    all_goals rfl
  all_goals rfl

theorem pageAddress_toNat (p : Byte) {i : Nat} (h : i < 160) : (pairOf p 0 + BitVec.ofNat 16 i).toNat = p.toNat * 256 + i := by
  have := p.isLt
  rw [BitVec.toNat_add, pairOf_toNat, BitVec.toNat_ofNat, show (0 : Byte).toNat = 0 from rfl]
  omega

theorem pageAddress_eq (p : Byte) {i : Nat} (h : i < 160) :
    pairOf p 0 + BitVec.ofNat 16 i = BitVec.ofNat 16 (p.toNat * 256 + i) := by
  rw [← pageAddress_toNat p h, BitVec.ofNat_toNat, BitVec.setWidth_eq]

/-- Page 0xFE alone reaches OAM, so an OAM byte that the engine reads is the one it is about to write. -/
theorem pageAddress_oam {p : Byte} {i : Nat} (h : i < 160) (hr : regionOf (pairOf p 0 + BitVec.ofNat 16 i) = .oam) :
    (pairOf p 0 + BitVec.ofNat 16 i).toNat - 0xFE00 = i := by
  have hb := regionOf_bounds hr
  simp only [Region.bounds, pageAddress_toNat p h] at hb ⊢
  omega

/-! ## One dot -/

theorem Dma.start_eq (v : Byte) : Dma.start v = { reg := v, active := true, src := pairOf v 0, index := 0, phase := 0 } :=
  congrArg (fun w => ({ reg := v, active := true, src := w, index := 0, phase := 0 } : Dma)) ((Dma.start_inv v).src_page rfl)

theorem busWrite_dma (s : State) (p : Byte) : busWrite s 0xFF46 p = { s with dma := Dma.start p } :=
  busWrite_ioReg s (a := 0xFF46) (r := .dma) p (by simp [ioRegAt])

theorem dmaTick_wait {s : State} (ha : s.dma.active = true) (hp : s.dma.phase + 1 ≠ 4) :
    dmaTick s = { s with dma := { s.dma with phase := s.dma.phase + 1 } } := by
  unfold dmaTick
  rw [if_pos ha, if_neg hp]

theorem dmaTick_copy {s : State} (ha : s.dma.active = true) (hp : s.dma.phase + 1 = 4) :
    dmaTick s = { s with
      oam := s.oam.write s.dma.index (busReadDma s (s.dma.src + BitVec.ofNat 16 s.dma.index))
      dma := { s.dma with phase := 0, index := s.dma.index + 1, active := decide (s.dma.index + 1 ≠ 160) } } := by
  unfold dmaTick
  rw [if_pos ha, if_pos hp]

/-! ## A transfer -/

/-- The engine `n` dots after a write of `p` to DMA. -/
def Dma.after (p : Byte) (n : Nat) : Dma :=
  { reg := p, active := decide (n < 640), src := pairOf p 0, index := n / 4, phase := n % 4 }

/-- `t` is `n` dots after `start`, where the write of `p` to DMA left the machine: the first `n / 4` bytes are copied. -/
structure DmaProgress (start : State) (p : Byte) (n : Nat) (t : State) : Prop where
  rest : t = { start with oam := t.oam, dma := t.dma }
  engine : t.dma = Dma.after p n
  copied : ∀ i, i < n / 4 → t.oam.read i = busReadDma start (pairOf p 0 + BitVec.ofNat 16 i)
  waiting : ∀ i, n / 4 ≤ i → t.oam.read i = start.oam.read i

theorem DmaProgress.zero {start : State} {p : Byte} (h : start.dma = Dma.start p) : DmaProgress start p 0 start :=
  ⟨rfl, h.trans (Dma.start_eq p), fun i hi => absurd hi (Nat.not_lt_zero i), fun _ _ => rfl⟩

section
variable {start t : State} {p : Byte} {n : Nat}

theorem DmaProgress.rest_succ (h : DmaProgress start p n t) :
    dmaTick t = { start with oam := (dmaTick t).oam, dma := (dmaTick t).dma } :=
  (dmaTick_eq t).trans (congrArg (fun u : State => { u with oam := (dmaTick t).oam, dma := (dmaTick t).dma }) h.rest)

theorem DmaProgress.active (h : DmaProgress start p n t) (hn : n < 640) : t.dma.active = true := by
  rw [h.engine]
  exact decide_eq_true hn

/-- The byte the engine reads next is still the byte of `start`: what is copied so far lies below it. -/
theorem DmaProgress.read_next (h : DmaProgress start p n t) (hs : start.dma = Dma.start p) (hn : n < 640) :
    busReadDma t (pairOf p 0 + BitVec.ofNat 16 (n / 4)) = busReadDma start (pairOf p 0 + BitVec.ofNat 16 (n / 4)) := by
  have hi : n / 4 < 160 := by omega
  refine (congrArg (busReadDma · _) h.rest).trans (busReadDma_setOamDma start t.oam ?_ (fun hr => ?_))
  · rw [h.engine, hs]
    rfl
  · rw [pageAddress_oam hi hr]
    exact h.waiting _ (Nat.le_refl _)

/-- One dot more: a wait, or on every fourth dot the copy of the next byte (R121). -/
theorem DmaProgress.succ (h : DmaProgress start p n t) (hs : start.dma = Dma.start p) (hn : n < 640) :
    DmaProgress start p (n + 1) (dmaTick t) := by
  have phase : t.dma.phase = n % 4 := congrArg Dma.phase h.engine
  by_cases hp : n % 4 + 1 = 4
  · have index : (n + 1) / 4 = n / 4 + 1 := by omega
    have tick := dmaTick_copy (h.active hn) (by rw [phase]; exact hp)
    have engine : (dmaTick t).dma = Dma.after p (n + 1) := by
      have last : n / 4 + 1 ≠ 160 ↔ n + 1 < 640 := by omega
      have phase0 : (n + 1) % 4 = 0 := by omega
      simp only [tick, h.engine, Dma.after, index, last, phase0]
    have oam : (dmaTick t).oam = t.oam.write (n / 4) (busReadDma start (pairOf p 0 + BitVec.ofNat 16 (n / 4))) := by
      rw [tick, ← h.read_next hs hn, h.engine]
      rfl
    refine ⟨h.rest_succ, engine, fun i hi => ?_, fun i hi => ?_⟩
    · rw [oam, Memory.read_write]
      split
      · next e => rw [e]
      · exact h.copied i (by omega)
    · rw [oam, Memory.read_write_ne _ _ (by omega)]
      exact h.waiting i (by omega)
  · have index : (n + 1) / 4 = n / 4 := by omega
    have tick := dmaTick_wait (h.active hn) (by rw [phase]; exact hp)
    have engine : (dmaTick t).dma = Dma.after p (n + 1) := by
      have more : n + 1 < 640 := by omega
      have phase1 : (n + 1) % 4 = n % 4 + 1 := by omega
      simp only [tick, h.engine, Dma.after, index, hn, more, phase1]
    have oam : (dmaTick t).oam = t.oam := by rw [tick]
    refine ⟨h.rest_succ, engine, fun i hi => ?_, fun i hi => ?_⟩
    · rw [oam]
      exact h.copied i (by omega)
    · rw [oam]
      exact h.waiting i (by omega)

end

theorem DmaProgress.iterate {start : State} {p : Byte} (hs : start.dma = Dma.start p) :
    ∀ n, n ≤ 640 → DmaProgress start p n (Nat.iterate dmaTick n start)
  | 0, _ => .zero hs
  | n + 1, h => by
    rw [Function.iterate_succ_apply']
    exact (DmaProgress.iterate hs n (by omega)).succ hs (by omega)

/-- Settles O47: where the transfer stands after each number of dots, by induction on the dots. -/
theorem oamDmaCopiesThePage : Obligations.OamDmaCopiesThePage := by
  intro s p
  dsimp only
  have hs : (busWrite s 0xFF46 p).dma = Dma.start p := by rw [busWrite_dma]
  have final := DmaProgress.iterate hs 640 (Nat.le_refl _)
  generalize ht : Nat.iterate dmaTick 640 (busWrite s 0xFF46 p) = t at final
  refine ⟨fun n hn => (DmaProgress.iterate hs n (Nat.le_of_lt hn)).active hn, ?_, ?_, ?_, fun i hi => ?_⟩
  · rw [final.engine]
    rfl
  · rw [busRead_ioReg t (r := .dma) (by simp [ioRegAt])]
    exact congrArg Dma.reg final.engine
  · have rest := final.rest
    rw [busWrite_dma] at rest
    exact congrArg (fun u : State => { u with oam := s.oam, dma := s.dma }) rest
  · rw [final.copied i hi, pageAddress_eq p hi]

end Sys2Proof.Machine
end

section
/-! SUPPORT. The router as one chain of owners (20_memory.md R102), and the I/O registers address by address (10_state.md R40 to R61,
R71; 62_apu.md R721). -/

namespace Sys2Proof.Machine

/-! ## The chain of owners (R102) -/

/-- A read outside the I/O registers, by the chain of R102. -/
theorem busRead_owner (s : State) {a : Word} (h : a.toNat < 0xFF00 ∨ 0xFF80 ≤ a.toNat) : busRead s a =
    if a.toNat < 0x8000 then romRead s.cart s.mapper a.toNat
    else if a.toNat < 0xA000 then
      (if s.params.lockoutReadFF = true ∧ s.ppu.lcdOn = true ∧ s.ppu.mode = .transfer then 0xFF else s.vram.read (a.toNat - 0x8000))
    else if a.toNat < 0xC000 then cartRamRead s.cart s.mapper a.toNat
    else if a.toNat < 0xE000 then s.wram.read (a.toNat - 0xC000)
    else if a.toNat < 0xFE00 then s.wram.read (a.toNat - 0xE000)
    else if a.toNat < 0xFEA0 then
      (if s.params.lockoutReadFF = true ∧ s.ppu.lcdOn = true ∧ s.ppu.mode = .oamScan then 0xFF else s.oam.read (a.toNat - 0xFE00))
    else if a.toNat < 0xFF00 then
      (if s.ppu.lcdOn = true ∧ (s.ppu.mode = .oamScan ∨ s.ppu.mode = .transfer) then 0xFF else 0x00)
    else if a.toNat < 0xFFFF then s.hram.read (a.toNat - 0xFF80)
    else s.ie := by
  split
  next rom => exact busRead_rom s rom
  split
  next vram => exact busRead_vram s (by omega) vram
  split
  next cartRam => exact busRead_cartRam s (by omega) cartRam
  split
  next wram => exact busRead_wram s (by omega) wram
  split
  next echo => rw [busRead_echo s (by omega) echo, Nat.sub_sub]
  split
  next oam => exact busRead_oam s (by omega) oam
  split
  next prohibited => exact busRead_prohibited s (by omega) prohibited
  split
  next hram => exact busRead_hram s (by omega) hram
  next ie => exact busRead_ie s (by omega)

/-- A write, by the chain of R102. -/
theorem busWrite_owner (s : State) (a : Word) (v : Byte) : busWrite s a v =
    if a.toNat < 0x8000 then { s with mapper := mapperRegWrite s.cart s.mapper a.toNat v }
    else if a.toNat < 0xA000 then
      (if s.ppu.lcdOn = true ∧ s.ppu.mode = .transfer then s else { s with vram := s.vram.write (a.toNat - 0x8000) v })
    else if a.toNat < 0xC000 then cartRamWrite s a.toNat v
    else if a.toNat < 0xE000 then { s with wram := s.wram.write (a.toNat - 0xC000) v }
    else if a.toNat < 0xFE00 then { s with wram := s.wram.write (a.toNat - 0xE000) v }
    else if a.toNat < 0xFEA0 then
      (if s.ppu.lcdOn = true ∧ s.ppu.mode = .oamScan then s else { s with oam := s.oam.write (a.toNat - 0xFE00) v })
    else if a.toNat < 0xFF00 then s
    else if a.toNat < 0xFF80 then ioWrite s (ioRegAt (a.toNat - 0xFF00)) v
    else if a.toNat < 0xFFFF then { s with hram := s.hram.write (a.toNat - 0xFF80) v }
    else { s with ie := v } := by
  split
  next rom => exact busWrite_rom s rom v
  split
  next vram => exact busWrite_vram s (by omega) vram v
  split
  next cartRam => exact busWrite_cartRam s (by omega) cartRam v
  split
  next wram => exact busWrite_wram s (by omega) wram v
  split
  next echo => rw [busWrite_echo s (by omega) echo, Nat.sub_sub]
  split
  next oam => exact busWrite_oam s (by omega) oam v
  split
  next prohibited => exact busWrite_prohibited s (by omega) prohibited v
  split
  next io => exact busWrite_io s (by omega) io v
  split
  next hram => exact busWrite_hram s (by omega) hram v
  next ie => exact busWrite_ie s (by omega) v

/-! ## The I/O address of each register (R40, R59, R61) -/

theorem busRead_ioAt (s : State) {n : Nat} (h : 0xFF00 ≤ n ∧ n < 0xFF80) :
    busRead s (BitVec.ofNat 16 n) = ioRead s (ioRegAt (n - 0xFF00)) := by
  have hn : (BitVec.ofNat 16 n).toNat = n := by rw [BitVec.toNat_ofNat]; omega
  rw [busRead_io s (by omega) (by omega), hn]

theorem busWrite_ioAt (s : State) {n : Nat} (h : 0xFF00 ≤ n ∧ n < 0xFF80) (v : Byte) :
    busWrite s (BitVec.ofNat 16 n) v = ioWrite s (ioRegAt (n - 0xFF00)) v := by
  have hn : (BitVec.ofNat 16 n).toNat = n := by rw [BitVec.toNat_ofNat]; omega
  rw [busWrite_io s (by omega) (by omega), hn]

theorem ioRegAt_waveRam : ∀ o < 0x80, 0x30 ≤ o → o < 0x40 → ioRegAt o = .wave (o - 0x30) := by decide

/-- The addresses that no register has (R61). -/
theorem ioRegAt_unimplemented : ∀ o < 0x80,
    o = 0x03 ∨ 0x08 ≤ o ∧ o < 0x0F ∨ o = 0x15 ∨ o = 0x1F ∨ 0x27 ≤ o ∧ o < 0x30 ∨ 0x4C ≤ o → ioRegAt o = .unimplemented := by decide

/-! ## Registers that read by a rule of their own (R41, R44, R51, R71) -/

/-- An input line is 0 where its button is pressed (R41). -/
theorem lines_getLsbD : ∀ b3 b2 b1 b0 : Bool, ∀ k < 4, (lines b3 b2 b1 b0).getLsbD k = !([b0, b1, b2, b3].getD k false) := by decide

/-- A line of P1 is low when a selected group holds its button down (R41). -/
theorem p1Nibble_getLsbD (sel : Byte) (b : Buttons) {k : Nat} (h : k < 4) : (p1Nibble sel b).getLsbD k =
    !((!bit sel 5 && [b.btnA, b.btnB, b.select, b.start].getD k false)
      || (!bit sel 4 && [b.right, b.left, b.up, b.down].getD k false)) := by
  have idle : (0xF : BitVec 4).getLsbD k = true := by revert k; decide
  rw [p1Nibble, BitVec.getLsbD_and, apply_ite (BitVec.getLsbD · k), apply_ite (BitVec.getLsbD · k), idle, Buttons.action,
    Buttons.dpad, lines_getLsbD _ _ _ _ k h, lines_getLsbD _ _ _ _ k h]
  cases bit sel 5 <;> cases bit sel 4 <;> simp

/-- The fixed bits of P1 (R41): 1 in bits 7 and 6, and the mask of the select bits. -/
theorem p1Masks_bit : ∀ k < 8, bit 0xC0 k = decide (6 ≤ k) ∧ bit 0x30 k = decide (4 ≤ k ∧ k < 6) := by decide

/-- P1 reads 1s above the two select bits, and the input lines below them (R41). -/
theorem Joypad.bit_read (j : Joypad) {k : Nat} (h : k < 8) : bit j.read k =
    if 6 ≤ k then true else if 4 ≤ k then bit j.p1 k else (p1Nibble j.p1 j.buttons).getLsbD k := by
  have nibble : bit ((p1Nibble j.p1 j.buttons).zeroExtend 8) k = (p1Nibble j.p1 j.buttons).getLsbD k := by simp [bit, h]
  obtain ⟨ones, select⟩ := p1Masks_bit k h
  rw [Joypad.read, bit_or, bit_or, bit_and, nibble, ones, select]
  split
  next h6 => simp [h6]
  split
  next h6 h4 => simp [h6, h4, Nat.lt_of_not_le h6]
  next h6 h4 => simp [h6, h4]

theorem flags_bits : ∀ c1 c2 c3 c4 power : Bool, ∀ k < 8,
    bit (flagBit power 7 ||| 0x70 ||| flagBit c4 3 ||| flagBit c3 2 ||| flagBit c2 1 ||| flagBit c1 0) k =
      [c1, c2, c3, c4, true, true, true, power].getD k false := by decide

/-- NR52 reads the power bit and which channels are on (R71). -/
theorem Apu.bit_nr52Read (a : Apu) {k : Nat} (h : k < 8) :
    bit a.nr52Read k = [a.ch1.on, a.ch2.on, a.ch3.on, a.ch4.on, true, true, true, a.power].getD k false :=
  flags_bits a.ch1.on a.ch2.on a.ch3.on a.ch4.on a.power k h

/-- STAT's low two bits: the mode, or 0 with the LCD off (R51, R640). -/
def Ppu.statMode (p : Ppu) : Byte := if p.lcdOn then p.mode.code else 0

theorem Ppu.statMode_toNat (p : Ppu) : p.statMode.toNat = if p.lcdOn = true then p.mode.code.toNat else 0 :=
  apply_ite BitVec.toNat _ _ _

theorem PpuMode.code_lt (m : PpuMode) : m.code.toNat < 4 := by cases m <;> decide

theorem Ppu.statMode_lt (p : Ppu) : p.statMode.toNat < 4 := by
  rw [Ppu.statMode_toNat]
  split
  · exact p.mode.code_lt
  · decide

/-- The bits of STAT above the mode (R51). -/
theorem Ppu.bit_statRead (p : Ppu) {k : Nat} (h : 2 ≤ k) :
    bit p.statRead k = (bit 0x80 k || (bit p.stat k && bit 0x78 k) || bit (flagBit p.coincidence 2) k) := by
  have mode : bit p.statMode k = false :=
    Nat.testBit_lt_two_pow (Nat.lt_of_lt_of_le p.statMode_lt (Nat.pow_le_pow_right (n := 2) Nat.two_pos h))
  rw [Ppu.statRead, ← Ppu.statMode, bit_or, bit_or, bit_or, bit_and, mode, Bool.or_false]

theorem Ppu.bit_statRead_top (p : Ppu) : bit p.statRead 7 = true := p.bit_statRead (by decide)

theorem Ppu.bit_statRead_coincidence (p : Ppu) : bit p.statRead 2 = p.coincidence := by
  have top : bit 0x80 2 = false := rfl
  have stored : bit 0x78 2 = false := rfl
  rw [Ppu.bit_statRead p (Nat.le_refl 2), bit_flagBit _ _ _ (by decide) (by decide), top, stored]
  simp

theorem statMasks_bit : ∀ k < 7, 3 ≤ k → bit 0x80 k = false ∧ bit 0x78 k = true := by decide

theorem Ppu.bit_statRead_enables (p : Ppu) {k : Nat} (h3 : 3 ≤ k) (h7 : k < 7) : bit p.statRead k = bit p.stat k := by
  obtain ⟨top, stored⟩ := statMasks_bit k h7 h3
  have hk : k ≠ 2 := by omega
  rw [Ppu.bit_statRead p (by omega), top, stored, bit_flagBit _ _ _ (by decide) (by omega)]
  simp [hk]

theorem flagBit2_setWidth (c : Bool) : (flagBit c 2).setWidth 2 = 0 := by cases c <;> rfl

/-- The two low bits of STAT (R51). -/
theorem Ppu.statRead_mod (p : Ppu) : p.statRead.toNat % 4 = p.statMode.toNat := by
  have low : p.statRead.setWidth 2 = p.statMode.setWidth 2 := by
    rw [Ppu.statRead, ← Ppu.statMode]
    simp [BitVec.setWidth_or, BitVec.setWidth_and, flagBit2_setWidth]
  calc p.statRead.toNat % 4 = (p.statRead.setWidth 2).toNat := (BitVec.toNat_setWidth 2 _).symm
    _ = p.statMode.toNat % 4 := by rw [low, BitVec.toNat_setWidth]
    _ = p.statMode.toNat := Nat.mod_eq_of_lt p.statMode_lt

/-! ## Writes with an effect of their own (R530, R710, R721) -/

theorem length64_eq (v : Byte) : length64 v = 64 - v.toNat % 64 := by
  unfold length64 field
  simp

/-- A start with the internal clock stores both bits (R530). -/
theorem scWrite_eq_ite (s : State) (v : Byte) : scWrite s v =
    if bit v 7 = true ∧ bit v 0 = true then
      { s with
        serial := { s.serial with sc := 0x81, bits := 8, clock := 0 }
        out := { s.out with serialOut := s.serial.sb :: s.out.serialOut } }
    else { s with serial := { s.serial with sc := v &&& 0x81, bits := 0 } } := by
  unfold scWrite
  by_cases h : (bit v 7 && bit v 0) = true
  · rw [if_pos h, if_pos (by simpa using h), started_mask v h]
  · rw [if_neg h, if_neg (by simpa using h)]

/-- A store to an audio register with the power on (R701). -/
theorem busWrite_apu {s : State} (power : s.apu.power = true) (r : ApuReg) {n : Nat}
    (h : 0xFF00 ≤ n ∧ n < 0xFF80 ∧ ioRegAt (n - 0xFF00) = .apu r) {v : Byte} {a : Apu} (ha : s.apu.regWrite r v = a) :
    busWrite s (BitVec.ofNat 16 n) v = { s with apu := a } := by
  obtain ⟨h1, h2, hr⟩ := h
  rw [busWrite_ioAt s ⟨h1, h2⟩, hr]
  show ({ s with apu := s.apu.write r v } : State) = _
  rw [Apu.write, if_pos (.inl power), ha]

/-- A channel goes off without its DAC, and otherwise stays as it is. -/
theorem ite_dac {α : Type} (dac on : Bool) (f : Bool → α) : (if dac = true then f on else f false) = f (on && dac) := by
  cases dac <;> simp

section
variable (a : Apu) (v : Byte)

/-! A length load (R710). -/

theorem Apu.regWrite_nr11 : a.regWrite .nr11 v = { a with nr11 := v, ch1 := { a.ch1 with len := 64 - v.toNat % 64 } } := by
  rw [← length64_eq]
  rfl

theorem Apu.regWrite_nr21 : a.regWrite .nr21 v = { a with nr21 := v, ch2 := { a.ch2 with len := 64 - v.toNat % 64 } } := by
  rw [← length64_eq]
  rfl

theorem Apu.regWrite_nr41 : a.regWrite .nr41 v = { a with nr41 := v, ch4 := { a.ch4 with len := 64 - v.toNat % 64 } } := by
  rw [← length64_eq]
  rfl

/-! A store that leaves a channel's DAC off turns the channel off (R702, R721). -/

theorem Apu.regWrite_nr12 : a.regWrite .nr12 v =
    { a with nr12 := v, ch1 := { a.ch1 with on := a.ch1.on && decide (v &&& 0xF8 ≠ 0) } } :=
  (ite_dac (decide (v &&& 0xF8 ≠ 0)) a.ch1.on (fun on => ({ a with nr12 := v, ch1 := { a.ch1 with on := on } } : Apu)) :)

theorem Apu.regWrite_nr22 : a.regWrite .nr22 v =
    { a with nr22 := v, ch2 := { a.ch2 with on := a.ch2.on && decide (v &&& 0xF8 ≠ 0) } } :=
  (ite_dac (decide (v &&& 0xF8 ≠ 0)) a.ch2.on (fun on => ({ a with nr22 := v, ch2 := { a.ch2 with on := on } } : Apu)) :)

theorem Apu.regWrite_nr30 : a.regWrite .nr30 v =
    { a with nr30 := v, ch3 := { a.ch3 with on := a.ch3.on && bit v 7 } } :=
  (ite_dac (bit v 7) a.ch3.on (fun on => ({ a with nr30 := v, ch3 := { a.ch3 with on := on } } : Apu)) :)

theorem Apu.regWrite_nr42 : a.regWrite .nr42 v =
    { a with nr42 := v, ch4 := { a.ch4 with on := a.ch4.on && decide (v &&& 0xF8 ≠ 0) } } :=
  (ite_dac (decide (v &&& 0xF8 ≠ 0)) a.ch4.on (fun on => ({ a with nr42 := v, ch4 := { a.ch4 with on := on } } : Apu)) :)

end

/-- Settles O42: the two chains of owners, then the I/O registers in the statement's order. -/
theorem busRouter : Obligations.BusRouter := by
  intro s a v n
  refine ⟨busRead_owner s, busWrite_owner s a v, ?_, ?_, ?_, ?_, ?_, ?_, ?_, ?_, ?_, ?_, ?_, ?_⟩
  -- stored bytes under their masks, and stored bytes alone
  · rintro p hp rfl
    revert p
    simp [busRead_ioAt, ioRegAt, apuRegAt, ioRead, Apu.read]
  · rintro p hp rfl
    revert p
    simp [busRead_ioAt, ioRegAt, ioRead]
  -- P1, DIV, NR52, STAT and LY
  · rintro rfl k hk
    have read : busRead s 0xFF00 = s.joypad.read := busRead_ioAt s (n := 0xFF00) (by decide)
    rw [read, Joypad.bit_read _ hk]
    split
    next => rfl
    split
    next => rfl
    next h4 => exact p1Nibble_getLsbD _ _ (Nat.lt_of_not_le h4)
  · rintro rfl
    have read : busRead s 0xFF04 = hiByte s.timer.divider := busRead_ioAt s (n := 0xFF04) (by decide)
    rw [read, hiByte_toNat]
  · rintro rfl k hk
    have read : busRead s 0xFF26 = s.apu.nr52Read := busRead_ioAt s (n := 0xFF26) (by decide)
    rw [read, Apu.bit_nr52Read _ hk]
  · rintro rfl
    have read : busRead s 0xFF41 = s.ppu.statRead := busRead_ioAt s (n := 0xFF41) (by decide)
    rw [read, Ppu.statRead_mod, Ppu.statMode_toNat]
    refine ⟨?_, fun k h3 h7 => ?_, ?_, ?_⟩
    · exact s.ppu.bit_statRead_top
    · exact s.ppu.bit_statRead_enables h3 h7
    · exact s.ppu.bit_statRead_coincidence
    · cases s.ppu.mode <;> rfl
  · rintro rfl
    exact busRead_ioAt s (n := 0xFF44) (by decide)
  -- wave RAM, and the addresses without a register
  · intro h1 h2
    have reg : ioRegAt (n - 0xFF00) = .wave (n - 0xFF30) := by
      rw [ioRegAt_waveRam _ (by omega) (by omega) (by omega), Nat.sub_sub]
    exact ⟨busRead_ioReg s ⟨by omega, by omega, reg⟩, busWrite_ioReg s v ⟨by omega, by omega, reg⟩⟩
  · intro h
    have reg : ioRegAt (n - 0xFF00) = .unimplemented := ioRegAt_unimplemented _ (by omega) (by omega)
    exact ⟨busRead_ioReg s ⟨by omega, by omega, reg⟩, busWrite_ioReg s v ⟨by omega, by omega, reg⟩⟩
  -- writes: plain stores, SC, audio registers
  · rintro p hp rfl
    revert p
    simp [busWrite_ioAt, ioRegAt, ioWrite, Dma.start_eq, Joypad.write]
  · rintro rfl
    exact (busWrite_ioAt s (n := 0xFF02) (by decide) v).trans (scWrite_eq_ite s v)
  · intro power len dac
    rintro p hp rfl
    revert p
    simp only [List.forall_mem_cons, List.not_mem_nil, false_imp_iff, implies_true, and_true]
    exact ⟨busWrite_apu power .nr10 (by decide) rfl, busWrite_apu power .nr13 (by decide) rfl,
      busWrite_apu power .nr23 (by decide) rfl, busWrite_apu power .nr32 (by decide) rfl,
      busWrite_apu power .nr33 (by decide) rfl, busWrite_apu power .nr43 (by decide) rfl,
      busWrite_apu power .nr50 (by decide) rfl, busWrite_apu power .nr51 (by decide) rfl,
      busWrite_apu power .nr11 (by decide) (s.apu.regWrite_nr11 v), busWrite_apu power .nr21 (by decide) (s.apu.regWrite_nr21 v),
      busWrite_apu power .nr31 (by decide) rfl, busWrite_apu power .nr41 (by decide) (s.apu.regWrite_nr41 v),
      busWrite_apu power .nr12 (by decide) (s.apu.regWrite_nr12 v), busWrite_apu power .nr22 (by decide) (s.apu.regWrite_nr22 v),
      busWrite_apu power .nr30 (by decide) (s.apu.regWrite_nr30 v), busWrite_apu power .nr42 (by decide) (s.apu.regWrite_nr42 v)⟩

end Sys2Proof.Machine
end

section
/-! SUPPORT. The opcode maps (30_encoding.md R199, R200) row by row, each row read both ways, and the two round trips of the encoding. -/

namespace Sys2Proof

open Sys2Proof.Machine

/-! ## A row of the opcode map (R199) -/

/-- Every instruction the opcode `op` leads to through `p` is well formed, and its bytes are `op` and the operands in order (R186). -/
inductive Pending.Spells (op : Byte) : Pending → Prop where
  | done {i : Instr} (hk : i.wellFormed = true ∧ encode i = [op]) : Spells op (.done i)
  | byte {k : Byte → Instr} (hk : ∀ n, (k n).wellFormed = true ∧ encode (k n) = [op, n]) : Spells op (.byte k)
  | word {k : Word → Instr} (hk : ∀ w, (k w).wellFormed = true ∧ encode (k w) = [op, loByte w, hiByte w]) : Spells op (.word k)
  | prefixed (hop : op = 0xCB) : Spells op .prefixed

/-- A row of the opcode map, both ways: the decoder takes the opcode `n` to `p`, and the encoder takes `p` back to `n`. -/
structure OpcodeRow (n : Nat) (p : Pending) : Prop where
  decodes : decodeOpcode (opByte n) = p
  encodes : p.Spells (opByte n)

theorem OpcodeRow.encode_done {n : Nat} {i : Instr} (h : OpcodeRow n (.done i)) : encode i = [opByte n] := by
  cases h.encodes with | done hk => exact hk.2

theorem OpcodeRow.encode_byte {n : Nat} {k : Byte → Instr} (h : OpcodeRow n (.byte k)) (v : Byte) :
    encode (k v) = [opByte n, v] := by
  cases h.encodes with | byte hk => exact (hk v).2

theorem OpcodeRow.encode_word {n : Nat} {k : Word → Instr} (h : OpcodeRow n (.word k)) (w : Word) :
    encode (k w) = [opByte n, loByte w, hiByte w] := by
  cases h.encodes with | word hk => exact (hk w).2

theorem OpcodeRow.decode_encode_done {n : Nat} {i : Instr} (h : OpcodeRow n (.done i)) (rest : List Byte) :
    decode (encode i ++ rest) = .ok (i, rest) := by
  rw [h.encode_done, decode_done h.decodes]

theorem OpcodeRow.decode_encode_byte {n : Nat} {k : Byte → Instr} (h : OpcodeRow n (.byte k)) (v : Byte) (rest : List Byte) :
    decode (encode (k v) ++ rest) = .ok (k v, rest) := by
  rw [h.encode_byte, decode_byte h.decodes]

theorem OpcodeRow.decode_encode_word {n : Nat} {k : Word → Instr} (h : OpcodeRow n (.word k)) (w : Word) (rest : List Byte) :
    decode (encode (k w) ++ rest) = .ok (k w, rest) := by
  rw [h.encode_word, decode_word h.decodes]

/-! ### Block 0 (R187) -/

theorem row_jrCc (cc : Cond) : OpcodeRow (0x20 + 8 * cc.code) (.byte (Instr.jrCc cc)) := by
  cases cc <;> exact ⟨rfl, .byte fun _ => ⟨rfl, rfl⟩⟩

theorem row_ldPair (r : R16) : OpcodeRow (0x01 + 16 * r.code) (.word (Instr.ldPair r)) := by
  cases r <;> exact ⟨rfl, .word fun _ => ⟨rfl, rfl⟩⟩

theorem row_addHl (r : R16) : OpcodeRow (0x09 + 16 * r.code) (.done (Instr.addHl r)) := by
  cases r <;> exact ⟨rfl, .done ⟨rfl, rfl⟩⟩

theorem row_ldATo (m : R16Mem) : OpcodeRow (0x02 + 16 * m.code) (.done (Instr.ldATo m)) := by
  cases m <;> exact ⟨rfl, .done ⟨rfl, rfl⟩⟩

theorem row_ldAFrom (m : R16Mem) : OpcodeRow (0x0A + 16 * m.code) (.done (Instr.ldAFrom m)) := by
  cases m <;> exact ⟨rfl, .done ⟨rfl, rfl⟩⟩

theorem row_inc16 (r : R16) : OpcodeRow (0x03 + 16 * r.code) (.done (Instr.inc16 r)) := by
  cases r <;> exact ⟨rfl, .done ⟨rfl, rfl⟩⟩

theorem row_dec16 (r : R16) : OpcodeRow (0x0B + 16 * r.code) (.done (Instr.dec16 r)) := by
  cases r <;> exact ⟨rfl, .done ⟨rfl, rfl⟩⟩

theorem row_inc8 (o : Opnd8) : OpcodeRow (0x04 + 8 * o.code) (.done (Instr.inc8 o)) := by
  rcases o with ⟨⟨⟩⟩ | _ <;> exact ⟨rfl, .done ⟨rfl, rfl⟩⟩

theorem row_dec8 (o : Opnd8) : OpcodeRow (0x05 + 8 * o.code) (.done (Instr.dec8 o)) := by
  rcases o with ⟨⟨⟩⟩ | _ <;> exact ⟨rfl, .done ⟨rfl, rfl⟩⟩

theorem row_moveImm (o : Opnd8) : OpcodeRow (0x06 + 8 * o.code) (.byte (Instr.moveImm o)) := by
  rcases o with ⟨⟨⟩⟩ | _ <;> exact ⟨rfl, .byte fun _ => ⟨rfl, rfl⟩⟩

/-! ### Blocks 1 and 2 (R188, R189) -/

theorem row_move (dst src : Opnd8) : OpcodeRow (0x40 + 8 * dst.code + src.code) (.done (Instr.move dst src)) := by
  rcases dst with ⟨⟨⟩⟩ | _ <;> rcases src with ⟨⟨⟩⟩ | _ <;> exact ⟨rfl, .done ⟨rfl, rfl⟩⟩

theorem row_alu (op : AluOp) (o : Opnd8) : OpcodeRow (0x80 + 8 * op.code + o.code) (.done (Instr.alu op o)) := by
  cases op <;> rcases o with ⟨⟨⟩⟩ | _ <;> exact ⟨rfl, .done ⟨rfl, rfl⟩⟩

/-! ### Block 3 (R191) -/

theorem row_retCc (cc : Cond) : OpcodeRow (0xC0 + 8 * cc.code) (.done (Instr.retCc cc)) := by
  cases cc <;> exact ⟨rfl, .done ⟨rfl, rfl⟩⟩

theorem row_popStk (r : R16Stk) : OpcodeRow (0xC1 + 16 * r.code) (.done (Instr.popStk r)) := by
  cases r <;> exact ⟨rfl, .done ⟨rfl, rfl⟩⟩

theorem row_jpCc (cc : Cond) : OpcodeRow (0xC2 + 8 * cc.code) (.word (Instr.jpCc cc)) := by
  cases cc <;> exact ⟨rfl, .word fun _ => ⟨rfl, rfl⟩⟩

theorem row_callCc (cc : Cond) : OpcodeRow (0xC4 + 8 * cc.code) (.word (Instr.callCc cc)) := by
  cases cc <;> exact ⟨rfl, .word fun _ => ⟨rfl, rfl⟩⟩

theorem row_pushStk (r : R16Stk) : OpcodeRow (0xC5 + 16 * r.code) (.done (Instr.pushStk r)) := by
  cases r <;> exact ⟨rfl, .done ⟨rfl, rfl⟩⟩

theorem row_aluD8 (op : AluOp) : OpcodeRow (0xC6 + 8 * op.code) (.byte (Instr.aluD8 op)) := by
  cases op <;> exact ⟨rfl, .byte fun _ => ⟨rfl, rfl⟩⟩

theorem row_rst {y : Nat} (hy : y < 8) : OpcodeRow (0xC7 + 8 * y) (.done (Instr.rst y)) := by
  interval_cases y <;> exact ⟨rfl, .done ⟨rfl, rfl⟩⟩

/-! ## A row of the prefixed map (R192, R200) -/

/-- A row of the prefixed map, both ways: the second byte `n` stands for `i`, and `i` is encoded as 0xCB and `n`. -/
structure PrefixedRow (n : Nat) (i : Instr) : Prop where
  decodes : decodePrefixed (opByte n) = i
  wellFormed : i.wellFormed = true
  encodes : encode i = [0xCB, opByte n]

theorem PrefixedRow.decode_encode {n : Nat} {i : Instr} (h : PrefixedRow n i) (rest : List Byte) :
    decode (encode i ++ rest) = .ok (i, rest) := by
  rw [h.encodes, decode_prefixed, h.decodes]

theorem prefixedRow_rot (op : RotOp) (o : Opnd8) : PrefixedRow (8 * op.code + o.code) (Instr.rot op o) := by
  cases op <;> rcases o with ⟨⟨⟩⟩ | _ <;> exact ⟨rfl, rfl, rfl⟩

theorem prefixedRow_bitB {b : Nat} (hb : b < 8) (o : Opnd8) : PrefixedRow (0x40 + 8 * b + o.code) (Instr.bitB b o) := by
  interval_cases b <;> rcases o with ⟨⟨⟩⟩ | _ <;> exact ⟨rfl, rfl, rfl⟩

theorem prefixedRow_resB {b : Nat} (hb : b < 8) (o : Opnd8) : PrefixedRow (0x80 + 8 * b + o.code) (Instr.resB b o) := by
  interval_cases b <;> rcases o with ⟨⟨⟩⟩ | _ <;> exact ⟨rfl, rfl, rfl⟩

theorem prefixedRow_setB {b : Nat} (hb : b < 8) (o : Opnd8) : PrefixedRow (0xC0 + 8 * b + o.code) (Instr.setB b o) := by
  interval_cases b <;> rcases o with ⟨⟨⟩⟩ | _ <;> exact ⟨rfl, rfl, rfl⟩

/-! ## From the instruction to its bytes and back -/

/-- Settles O1: every well-formed instruction is a form, and a form's row, or its one opcode, decodes to it. -/
theorem decodeInvertsEncode : Obligations.DecodeInvertsEncode := by
  intro i rest hi
  cases isForm i with
  | ldReg dst src => exact (row_move (.reg dst) (.reg src)).decode_encode_done rest
  | ldFromHl dst => exact (row_move (.reg dst) .indHl).decode_encode_done rest
  | ldToHl r => exact (row_move .indHl (.reg r)).decode_encode_done rest
  | ldRegImm dst n => exact (row_moveImm (.reg dst)).decode_encode_byte n rest
  | ldAFrom m => exact (row_ldAFrom m).decode_encode_done rest
  | ldATo m => exact (row_ldATo m).decode_encode_done rest
  | ldPair r w => exact (row_ldPair r).decode_encode_word w rest
  | pushStk r => exact (row_pushStk r).decode_encode_done rest
  | popStk r => exact (row_popStk r).decode_encode_done rest
  | alu op o => exact (row_alu op o).decode_encode_done rest
  | aluD8 op n => exact (row_aluD8 op).decode_encode_byte n rest
  | inc8 o => exact (row_inc8 o).decode_encode_done rest
  | dec8 o => exact (row_dec8 o).decode_encode_done rest
  | addHl r => exact (row_addHl r).decode_encode_done rest
  | inc16 r => exact (row_inc16 r).decode_encode_done rest
  | dec16 r => exact (row_dec16 r).decode_encode_done rest
  | rot op o => exact (prefixedRow_rot op o).decode_encode rest
  | jrCc cc e => exact (row_jrCc cc).decode_encode_byte e rest
  | jpCc cc w => exact (row_jpCc cc).decode_encode_word w rest
  | callCc cc w => exact (row_callCc cc).decode_encode_word w rest
  | retCc cc => exact (row_retCc cc).decode_encode_done rest
  | bitB b hb o => exact (prefixedRow_bitB hb o).decode_encode rest
  | resB b hb o => exact (prefixedRow_resB hb o).decode_encode rest
  | setB b hb o => exact (prefixedRow_setB hb o).decode_encode rest
  | rst y hy => exact (row_rst hy).decode_encode_done rest
  | prefixCb op2 => exact nomatch hi
  | stop n => exact decode_byte (k := .stop) rfl n rest
  | jrE8 e => exact decode_byte (k := .jrE8) rfl e rest
  | ldIndHlD8 n => exact decode_byte (k := .ldIndHlD8) rfl n rest
  | ldhIndA8A n => exact decode_byte (k := .ldhIndA8A) rfl n rest
  | addSpE8 e => exact decode_byte (k := .addSpE8) rfl e rest
  | ldhAIndA8 n => exact decode_byte (k := .ldhAIndA8) rfl n rest
  | ldHlSpE8 e => exact decode_byte (k := .ldHlSpE8) rfl e rest
  | ldIndA16Sp w => exact decode_word (k := .ldIndA16Sp) rfl w rest
  | jpA16 w => exact decode_word (k := .jpA16) rfl w rest
  | callA16 w => exact decode_word (k := .callA16) rfl w rest
  | ldIndA16A w => exact decode_word (k := .ldIndA16A) rfl w rest
  | ldAIndA16 w => exact decode_word (k := .ldAIndA16) rfl w rest
  | nop | rlca | rrca | rla | rra | daa | cpl | scf | ccf | halt | ret | reti | jpHl | ldSpHl | ldIndCA | ldAIndC | di | ei
  | illegalD3 | illegalDB | illegalDD | illegalE3 | illegalE4 | illegalEB | illegalEC | illegalED | illegalF4 | illegalFC
  | illegalFD => exact decode_done rfl rest

/-! ## The fields of an opcode byte and the operand codes (R182 to R185, R189, R192) -/

theorem fieldY_lt (op : Byte) : fieldY op < 8 := Nat.mod_lt _ (by decide)

theorem fieldZ_lt (op : Byte) : fieldZ op < 8 := Nat.mod_lt _ (by decide)

theorem fieldX_lt (op : Byte) : fieldX op < 4 := by
  have := op.isLt
  unfold fieldX
  omega

theorem fieldY_eq (op : Byte) : fieldY op = 2 * fieldP op + fieldQ op := (Nat.div_add_mod _ 2).symm

theorem fieldP_lt (op : Byte) : fieldP op < 4 := Nat.div_lt_of_lt_mul (fieldY_lt op)

theorem fieldQ_lt (op : Byte) : fieldQ op < 2 := Nat.mod_lt _ (by decide)

/-- The fields x, y and z are the whole byte. -/
theorem opByte_fields (op : Byte) : opByte (64 * fieldX op + 8 * fieldY op + fieldZ op) = op := by
  have hn : 64 * fieldX op + 8 * fieldY op + fieldZ op = op.toNat := by
    unfold fieldX fieldY fieldZ
    omega
  rw [hn, opByte, BitVec.ofNat_toNat, BitVec.setWidth_eq]

theorem code_opnd8 {k : Nat} (hk : k < 8) : (opnd8 k).code = k := by interval_cases k <;> rfl

theorem code_r16 {k : Nat} (hk : k < 4) : (r16 k).code = k := by interval_cases k <;> rfl

theorem code_r16stk {k : Nat} (hk : k < 4) : (r16stk k).code = k := by interval_cases k <;> rfl

theorem code_r16mem {k : Nat} (hk : k < 4) : (r16mem k).code = k := by interval_cases k <;> rfl

theorem code_cond {k : Nat} (hk : k < 4) : (cond k).code = k := by interval_cases k <;> rfl

theorem code_aluOp {k : Nat} (hk : k < 8) : (aluOp k).code = k := by interval_cases k <;> rfl

theorem code_rotOp {k : Nat} (hk : k < 8) : (rotOp k).code = k := by interval_cases k <;> rfl

/-- A row's opcode is the byte whose fields it names. -/
theorem Pending.Spells.of_fields {op : Byte} {n : Nat} {p : Pending} (h : p.Spells (opByte n))
    (hn : n = 64 * fieldX op + 8 * fieldY op + fieldZ op) : p.Spells op := by
  rwa [hn, opByte_fields] at h

theorem PrefixedRow.of_fields {op : Byte} {n : Nat} {i : Instr} (h : PrefixedRow n i)
    (hn : n = 64 * fieldX op + 8 * fieldY op + fieldZ op) : i.wellFormed = true ∧ encode i = [0xCB, op] := by
  rw [hn] at h
  exact ⟨h.wellFormed, by rw [h.encodes, opByte_fields]⟩

/-! ## From the bytes to the instruction and back -/

/-- Block 0, branch by branch; a last pattern comes with the earlier ones denied, which `imp_false` brings into the form omega reads. -/
theorem block0_spells {op : Byte} (hx : fieldX op = 0) : (block0 op).Spells op := by
  have hy := fieldY_lt op
  have hz := fieldZ_lt op
  have hpq := fieldY_eq op
  have hp := fieldP_lt op
  have hq := fieldQ_lt op
  unfold block0
  split
  · split
    · exact .of_fields (n := 0x00) (.done ⟨rfl, rfl⟩) (by omega)
    · exact .of_fields (n := 0x08) (.word fun _ => ⟨rfl, rfl⟩) (by omega)
    · exact .of_fields (n := 0x10) (.byte fun _ => ⟨rfl, rfl⟩) (by omega)
    · exact .of_fields (n := 0x18) (.byte fun _ => ⟨rfl, rfl⟩) (by omega)
    · simp only [imp_false] at *
      exact (row_jrCc _).encodes.of_fields (by rw [code_cond (k := fieldY op - 4) (by omega)]; omega)
  · split
    · exact (row_ldPair _).encodes.of_fields (by rw [code_r16 hp]; omega)
    · exact (row_addHl _).encodes.of_fields (by rw [code_r16 hp]; omega)
  · split
    · exact (row_ldATo _).encodes.of_fields (by rw [code_r16mem hp]; omega)
    · exact (row_ldAFrom _).encodes.of_fields (by rw [code_r16mem hp]; omega)
  · split
    · exact (row_inc16 _).encodes.of_fields (by rw [code_r16 hp]; omega)
    · exact (row_dec16 _).encodes.of_fields (by rw [code_r16 hp]; omega)
  · exact (row_inc8 _).encodes.of_fields (by rw [code_opnd8 hy]; omega)
  · exact (row_dec8 _).encodes.of_fields (by rw [code_opnd8 hy]; omega)
  · exact (row_moveImm _).encodes.of_fields (by rw [code_opnd8 hy]; omega)
  · simp only [imp_false] at *
    split
    · exact .of_fields (n := 0x07) (.done ⟨rfl, rfl⟩) (by omega)
    · exact .of_fields (n := 0x0F) (.done ⟨rfl, rfl⟩) (by omega)
    · exact .of_fields (n := 0x17) (.done ⟨rfl, rfl⟩) (by omega)
    · exact .of_fields (n := 0x1F) (.done ⟨rfl, rfl⟩) (by omega)
    · exact .of_fields (n := 0x27) (.done ⟨rfl, rfl⟩) (by omega)
    · exact .of_fields (n := 0x2F) (.done ⟨rfl, rfl⟩) (by omega)
    · exact .of_fields (n := 0x37) (.done ⟨rfl, rfl⟩) (by omega)
    · simp only [imp_false] at *
      exact .of_fields (n := 0x3F) (.done ⟨rfl, rfl⟩) (by omega)

/-- Block 3, branch by branch. -/
theorem block3_spells {op : Byte} (hx : fieldX op = 3) : (block3 op).Spells op := by
  have hy := fieldY_lt op
  have hz := fieldZ_lt op
  have hpq := fieldY_eq op
  have hp := fieldP_lt op
  have hq := fieldQ_lt op
  unfold block3
  split
  · split
    · exact .of_fields (n := 0xE0) (.byte fun _ => ⟨rfl, rfl⟩) (by omega)
    · exact .of_fields (n := 0xE8) (.byte fun _ => ⟨rfl, rfl⟩) (by omega)
    · exact .of_fields (n := 0xF0) (.byte fun _ => ⟨rfl, rfl⟩) (by omega)
    · exact .of_fields (n := 0xF8) (.byte fun _ => ⟨rfl, rfl⟩) (by omega)
    · simp only [imp_false] at *
      exact (row_retCc _).encodes.of_fields (by rw [code_cond (k := fieldY op) (by omega)]; omega)
  · split
    · exact (row_popStk _).encodes.of_fields (by rw [code_r16stk hp]; omega)
    · split
      · exact .of_fields (n := 0xC9) (.done ⟨rfl, rfl⟩) (by omega)
      · exact .of_fields (n := 0xD9) (.done ⟨rfl, rfl⟩) (by omega)
      · exact .of_fields (n := 0xE9) (.done ⟨rfl, rfl⟩) (by omega)
      · simp only [imp_false] at *
        exact .of_fields (n := 0xF9) (.done ⟨rfl, rfl⟩) (by omega)
  · split
    · exact .of_fields (n := 0xE2) (.done ⟨rfl, rfl⟩) (by omega)
    · exact .of_fields (n := 0xEA) (.word fun _ => ⟨rfl, rfl⟩) (by omega)
    · exact .of_fields (n := 0xF2) (.done ⟨rfl, rfl⟩) (by omega)
    · exact .of_fields (n := 0xFA) (.word fun _ => ⟨rfl, rfl⟩) (by omega)
    · simp only [imp_false] at *
      exact (row_jpCc _).encodes.of_fields (by rw [code_cond (k := fieldY op) (by omega)]; omega)
  · split
    · exact .of_fields (n := 0xC3) (.word fun _ => ⟨rfl, rfl⟩) (by omega)
    · exact .of_fields (n := 0xCB) (.prefixed rfl) (by omega)
    · exact .of_fields (n := 0xD3) (.done ⟨rfl, rfl⟩) (by omega)
    · exact .of_fields (n := 0xDB) (.done ⟨rfl, rfl⟩) (by omega)
    · exact .of_fields (n := 0xE3) (.done ⟨rfl, rfl⟩) (by omega)
    · exact .of_fields (n := 0xEB) (.done ⟨rfl, rfl⟩) (by omega)
    · exact .of_fields (n := 0xF3) (.done ⟨rfl, rfl⟩) (by omega)
    · simp only [imp_false] at *
      exact .of_fields (n := 0xFB) (.done ⟨rfl, rfl⟩) (by omega)
  · split
    · exact .of_fields (n := 0xE4) (.done ⟨rfl, rfl⟩) (by omega)
    · exact .of_fields (n := 0xEC) (.done ⟨rfl, rfl⟩) (by omega)
    · exact .of_fields (n := 0xF4) (.done ⟨rfl, rfl⟩) (by omega)
    · exact .of_fields (n := 0xFC) (.done ⟨rfl, rfl⟩) (by omega)
    · simp only [imp_false] at *
      exact (row_callCc _).encodes.of_fields (by rw [code_cond (k := fieldY op) (by omega)]; omega)
  · split
    · exact (row_pushStk _).encodes.of_fields (by rw [code_r16stk hp]; omega)
    · split
      · exact .of_fields (n := 0xCD) (.word fun _ => ⟨rfl, rfl⟩) (by omega)
      · exact .of_fields (n := 0xDD) (.done ⟨rfl, rfl⟩) (by omega)
      · exact .of_fields (n := 0xED) (.done ⟨rfl, rfl⟩) (by omega)
      · simp only [imp_false] at *
        exact .of_fields (n := 0xFD) (.done ⟨rfl, rfl⟩) (by omega)
  · exact (row_aluD8 _).encodes.of_fields (by rw [code_aluOp hy]; omega)
  · simp only [imp_false] at *
    exact (row_rst hy).encodes.of_fields (by omega)

/-- Every opcode byte is a row of the map: what it decodes to encodes back to it (R195). -/
theorem decodeOpcode_spells (op : Byte) : (decodeOpcode op).Spells op := by
  have hx := fieldX_lt op
  have hy := fieldY_lt op
  have hz := fieldZ_lt op
  unfold decodeOpcode
  split
  · exact block0_spells ‹_›
  · exact (row_move _ _).encodes.of_fields (by rw [code_opnd8 hy, code_opnd8 hz]; omega)
  · exact (row_alu _ _).encodes.of_fields (by rw [code_aluOp hy, code_opnd8 hz]; omega)
  · simp only [imp_false] at *
    exact block3_spells (by omega)

/-- Every second byte is a row of the prefixed map (R192). -/
theorem decodePrefixed_spells (op : Byte) :
    (decodePrefixed op).wellFormed = true ∧ encode (decodePrefixed op) = [0xCB, op] := by
  have hx := fieldX_lt op
  have hy := fieldY_lt op
  have hz := fieldZ_lt op
  unfold decodePrefixed
  split
  · exact (prefixedRow_rot _ _).of_fields (by rw [code_rotOp hy, code_opnd8 hz]; omega)
  · exact (prefixedRow_bitB hy _).of_fields (by rw [code_opnd8 hz]; omega)
  · exact (prefixedRow_resB hy _).of_fields (by rw [code_opnd8 hz]; omega)
  · simp only [imp_false] at *
    exact (prefixedRow_setB hy _).of_fields (by rw [code_opnd8 hz]; omega)

/-- Settles O2: the bytes read are an opcode, a row of the map, and its operands; after 0xCB, a row of the prefixed map. -/
theorem encodeInvertsDecode : Obligations.EncodeInvertsDecode := by
  intro bs i rest h
  rcases decode_cases h with ⟨op, rfl, hp⟩ | ⟨op, n, k, rfl, hp, rfl⟩ | ⟨op, lo, hi, k, rfl, hp, rfl⟩ | ⟨op, n, rfl, hp, rfl⟩
    <;> have hs := hp ▸ decodeOpcode_spells op
  · cases hs with | done hk =>
    obtain ⟨hi, he⟩ := hk
    exact ⟨hi, by rw [he]; rfl⟩
  · cases hs with | byte hk =>
    exact ⟨(hk n).1, by rw [(hk n).2]; rfl⟩
  · cases hs with | word hk =>
    refine ⟨(hk _).1, ?_⟩
    rw [(hk _).2, loByte_pairOf, hiByte_pairOf]
    rfl
  · cases hs with | prefixed hop =>
    obtain ⟨hi, he⟩ := decodePrefixed_spells n
    exact ⟨hi, by rw [he, hop]; rfl⟩

end Sys2Proof
end

section
/-! SUPPORT. The loads (40_loads.md): what a load, a store, a push and a pop leave behind, and the statements about them. -/

namespace Sys2Proof.Machine

/-! ## An instruction that passes (R12, R35) -/

/-- An instruction that retires over registers whose pc, IME and halted mark are still those of `s`. -/
theorem Passes.retire {s t : State} {n : Nat} (hn : n % 4 = 0) (h4 : 4 ≤ n) (hpc : t.cpu.pc = s.cpu.pc)
    (hime : t.cpu.ime = s.cpu.ime) (hhalted : t.cpu.halted = s.cpu.halted) (len : Word) : Passes s (t.retire len n) len n :=
  ⟨congrArg (· + len) hpc, report_reported hn h4, hime, hhalted⟩

/-! ## One register loaded, one byte stored -/

section
variable (s : State) (len : Word) {n : Nat}

/-- All that a load of one register does. -/
theorem load_result (r : R8) (v : Byte) (hn : n % 4 = 0) (h4 : 4 ≤ n) :
    let t := ({ s with cpu := s.cpu.set8 r v } : State).retire len n
    t.cpu.get8 r = v ∧ KeepsRegs s t [r] ∧ t.cpu.f = s.cpu.f ∧ t.cpu.sp = s.cpu.sp ∧ Passes s t len n ∧ OnlyCpu s t := by
  obtain ⟨⟨hv, hregs, honly⟩, hf, hsp, hpass⟩ := put_result s (.reg r) v len hn h4
  exact ⟨hv, hregs, hf, hsp, hpass, honly⟩

/-- All that a store of one byte does. -/
theorem store_result (a : Word) (v : Byte) (hn : n % 4 = 0) (h4 : 4 ≤ n) :
    let t := (busWrite s a v).retire len n
    StoresByte s t a v ∧ KeepsRegs s t [] ∧ t.cpu.f = s.cpu.f ∧ t.cpu.sp = s.cpu.sp ∧ Passes s t len n := by
  refine ⟨StoresByte.busWrite s a v _, KeepsRegs.of_eq (by simp) [], by simp, by simp, ?_⟩
  exact Passes.retire hn h4 (by simp) (by simp) (by simp) len

end

/-! ## Encodings (R187, R188) -/

theorem encode_ldFromHl (dst : R8) : encode (Instr.ldFromHl dst) = [opByte (0x46 + 8 * dst.code)] := by
  have shift : 0x46 + 8 * dst.code = 0x40 + 8 * dst.code + 6 := by omega
  rw [shift]
  exact (row_move (.reg dst) .indHl).encode_done

/-- Settles O4: each form writes one register. -/
theorem loadRegister : Obligations.LoadRegister := by
  intro dst s
  refine ⟨fun src => ⟨(row_move (.reg dst) (.reg src)).encode_done, ?_⟩, ⟨encode_ldFromHl dst, ?_⟩,
    fun n => ⟨(row_moveImm (.reg dst)).encode_byte n, ?_⟩⟩
  · exact ⟨_, exec_ldReg dst src s, load_result s 1 dst (s.cpu.get8 src) rfl (by decide)⟩
  · exact ⟨_, exec_ldFromHl dst s, load_result s 1 dst (busRead s s.cpu.hl) rfl (by decide)⟩
  · exact ⟨_, exec_ldRegImm dst n s, load_result s 2 dst n rfl (by decide)⟩

/-- Settles O5: each form stores one byte at HL. -/
theorem storeThroughHl : Obligations.StoreThroughHl := by
  refine ⟨fun src s => ⟨(row_move .indHl (.reg src)).encode_done, ?_⟩, fun n s => ⟨(row_moveImm .indHl).encode_byte n, ?_⟩⟩
  · exact ⟨_, exec_ldToHl src s, store_result s 1 s.cpu.hl (s.cpu.get8 src) rfl (by decide)⟩
  · exact ⟨_, rfl, store_result s 2 s.cpu.hl n rfl (by decide)⟩

/-! ## A through a pair (R184, R235 to R240) -/

/-- A pair is two registers, written one after the other. -/
theorem Cpu.set8_set8_get8 (c : Cpu) {p q r : R8} (h : r ∉ [p, q]) (v w : Byte) : ((c.set8 p v).set8 q w).get8 r = c.get8 r := by
  obtain ⟨hp, hq⟩ : r ≠ p ∧ r ≠ q := by simpa using h
  rw [Cpu.set8_get8_ne _ hq, Cpu.set8_get8_ne _ hp]

/-- The registers that an access through `m` steps: those of HL in the (HL+) and (HL-) forms. -/
def steppedRegs (m : R16Mem) : List R8 :=
  match m with
  | .bc => []
  | .de => []
  | .hlInc => [.h, .l]
  | .hlDec => [.h, .l]

theorem Cpu.memStep_get8 (c : Cpu) (m : R16Mem) (a : Word) {r : R8} (h : r ∉ steppedRegs m) :
    (c.memStep m a).get8 r = c.get8 r := by
  cases m
  case bc => rfl
  case de => rfl
  case hlInc => exact Cpu.set8_set8_get8 c h (hiByte (a + 1)) (loByte (a + 1))
  case hlDec => exact Cpu.set8_set8_get8 c h (hiByte (a - 1)) (loByte (a - 1))

/-- A loaded and HL stepped: the other registers are kept. -/
theorem KeepsRegs.ldAFrom (s : State) (m : R16Mem) (v : Byte) (a : Word) :
    KeepsRegs s (({ s with cpu := ({ s.cpu with a := v } : Cpu).memStep m a } : State).retire 1 8) (.a :: steppedRegs m) := by
  intro r hr
  obtain ⟨ha, hm⟩ := not_or.mp (mt List.mem_cons.mpr hr)
  rw [State.retire_get8, Cpu.memStep_get8 _ _ _ hm]
  exact Cpu.set8_get8_ne s.cpu ha v

/-- HL stepped after a store: the other registers are kept. -/
theorem KeepsRegs.ldATo (s : State) (m : R16Mem) (a : Word) (v : Byte) :
    KeepsRegs s (({ busWrite s a v with cpu := (busWrite s a v).cpu.memStep m a } : State).retire 1 8) (steppedRegs m) := by
  intro r hr
  rw [State.retire_get8, Cpu.memStep_get8 _ _ _ hr, busWrite_cpu]

/-- Settles O6: A is loaded first, and the step of HL leaves it. -/
theorem loadAThroughPair : Obligations.LoadAThroughPair := by
  intro m s
  refine ⟨(row_ldAFrom m).encode_done, _, exec_ldAFrom m s, by simp, by simp, ?_, OnlyCpu.retire s _ 1 8, ?_⟩
  · exact Passes.retire rfl (by decide) (by simp) (by simp) (by simp) 1
  · have regs (v : Byte) (a : Word) := KeepsRegs.ldAFrom s m v a
    cases m
    case bc => exact ⟨rfl, regs _ _⟩
    case de => exact ⟨rfl, regs _ _⟩
    case hlInc => exact ⟨rfl, Cpu.setHl_hl s.cpu _, regs _ _⟩
    case hlDec => exact ⟨rfl, Cpu.setHl_hl s.cpu _, regs _ _⟩

/-- Settles O7: the store is done under the old registers, and then HL is stepped. -/
theorem storeAThroughPair : Obligations.StoreAThroughPair := by
  intro m s
  refine ⟨(row_ldATo m).encode_done, _, exec_ldATo m s, by simp, by simp, ?_, ?_⟩
  · exact Passes.retire rfl (by decide) (by simp) (by simp) (by simp) 1
  · have regs (a : Word) := KeepsRegs.ldATo s m a s.cpu.a
    have stores (a : Word) (c : Cpu) : StoresByte s (({ busWrite s a s.cpu.a with cpu := c } : State).retire 1 8) a s.cpu.a :=
      StoresByte.busWrite s a s.cpu.a _
    cases m
    case bc => exact ⟨stores _ _, regs _⟩
    case de => exact ⟨stores _ _, regs _⟩
    case hlInc => exact ⟨stores _ _, Cpu.setHl_hl s.cpu _, regs _⟩
    case hlDec => exact ⟨stores _ _, Cpu.setHl_hl s.cpu _, regs _⟩

/-! ## A and an address (R186, R241, R242, R246 to R249) -/

theorem highPage_eq (v : Byte) : highPage v = BitVec.ofNat 16 (0xFF00 + v.toNat) := by
  refine BitVec.eq_of_toNat_eq ?_
  simp [highPage]

/-- Settles O8: A is the one register loaded. -/
theorem loadAFromAddress : Obligations.LoadAFromAddress := by
  refine ⟨fun w s => ⟨rfl, _, rfl, ?_⟩, fun n s => ⟨rfl, _, rfl, ?_⟩, fun s => ⟨rfl, _, rfl, ?_⟩⟩
  · exact load_result s 3 .a (busRead s w) rfl (by decide)
  · rw [← highPage_eq]
    exact load_result s 2 .a (busRead s (highPage n)) rfl (by decide)
  · rw [← highPage_eq]
    exact load_result s 1 .a (busRead s (highPage s.cpu.c)) rfl (by decide)

/-- Settles O9: A is the one byte stored. -/
theorem storeAToAddress : Obligations.StoreAToAddress := by
  refine ⟨fun w s => ⟨rfl, _, rfl, ?_⟩, fun n s => ⟨rfl, _, rfl, ?_⟩, fun s => ⟨rfl, _, rfl, ?_⟩⟩
  · exact store_result s 3 w s.cpu.a rfl (by decide)
  · rw [← highPage_eq]
    exact store_result s 2 (highPage n) s.cpu.a rfl (by decide)
  · rw [← highPage_eq]
    exact store_result s 1 (highPage s.cpu.c) s.cpu.a rfl (by decide)

/-! ## Pairs and SP (R243 to R245) -/

theorem Cpu.set16_sp (c : Cpu) {r : R16} (h : r ≠ .sp) (v : Word) : (c.set16 r v).sp = c.sp := by
  cases r
  case sp => exact absurd rfl h
  all_goals rfl

theorem Cpu.set16_get8 (c : Cpu) {p : R16} {r : R8} (h : r ∉ p.halves) (v : Word) : (c.set16 p v).get8 r = c.get8 r := by
  cases p
  case sp => cases r <;> rfl
  all_goals exact Cpu.set8_set8_get8 c h (hiByte v) (loByte v)

@[simp] theorem State.retire_get16 (s : State) (len : Word) (n : Nat) (r : R16) :
    (s.retire len n).cpu.get16 r = s.cpu.get16 r := by cases r <;> rfl

/-- Settles O10: the pair is written through `set16`, SP by LD SP,HL as the pair SP. -/
theorem loadPair : Obligations.LoadPair := by
  refine ⟨fun r w s => ⟨(row_ldPair r).encode_word w, _, exec_ldPair r w s, by simp, fun q hq => ?_, fun hr => ?_, by simp, ?_,
    OnlyCpu.retire s _ 3 12⟩, fun s => ⟨rfl, _, rfl, rfl, fun q _ => ?_, rfl, ?_, OnlyCpu.retire s _ 1 8⟩⟩
  · rw [State.retire_get8, Cpu.set16_get8 _ hq]
  · exact Cpu.set16_sp s.cpu hr w
  · exact Passes.retire rfl (by decide) (by simp) (by simp) (by simp) 3
  · exact (State.retire_get8 ..).trans (Cpu.set16_get8 (p := .sp) s.cpu (List.not_mem_nil) s.cpu.hl)
  · exact Passes.retire rfl (by decide) rfl rfl rfl 1

/-! ## Words stored and loaded: LD (a16),SP, PUSH and POP (R106, R244, R250 to R254) -/

/-- All that a store of a word under new registers does, where they keep all but SP and the CPU retires after it. -/
theorem storeWord_result (s : State) (a v sp len : Word) {n : Nat} (hn : n % 4 = 0) (h4 : 4 ≤ n) :
    let t := ({ busWrite (busWrite s a (loByte v)) (a + 1) (hiByte v) with cpu := { s.cpu with sp := sp } } : State).retire len n
    StoresWord s t a v ∧ t.cpu.sp = sp ∧ KeepsRegs s t [] ∧ t.cpu.f = s.cpu.f ∧ Passes s t len n :=
  ⟨StoresWord.busWrite s a v _, rfl, KeepsRegs.of_eq (fun r => by cases r <;> rfl) [], rfl,
    Passes.retire hn h4 rfl rfl rfl len⟩

theorem stSp_fault (s : State) : stSp 0xFFFF s = .fault (.wrapAccess16 0xFFFF s.cpu.pc) := rfl

theorem stSp_next (s : State) {w : Word} (h : w ≠ 0xFFFF) : stSp w s = .next
    (({ busWrite (busWrite s w (loByte s.cpu.sp)) (w + 1) (hiByte s.cpu.sp) with cpu := s.cpu } : State).retire 3 20) := by
  unfold stSp
  rw [memWrite16_ok s h, busWrite_self (busWrite s _ _), busWrite_cpu]

/-- Settles O11: two bytes stored under the old registers, or at 0xFFFF the fault. -/
theorem storeStackPointer : Obligations.StoreStackPointer := by
  refine fun w s => ⟨rfl, fun h => ⟨_, stSp_next s h, ?_⟩, fun h => h ▸ stSp_fault s⟩
  obtain ⟨hword, hsp, hregs, hf, hpass⟩ := storeWord_result s w s.cpu.sp s.cpu.sp 3 (n := 20) rfl (by decide)
  exact ⟨hword, hregs, hf, hsp, hpass⟩

/-- All that a push does, and when it faults (R106, R250, R252). -/
theorem push_result (r : R16Stk) (s : State) :
    (s.cpu.sp ≠ 0x0001 → ∃ t, push r s = .next t ∧ StoresWord s t (s.cpu.sp - 2) (s.cpu.getStk r) ∧ t.cpu.sp = s.cpu.sp - 2 ∧
      KeepsRegs s t [] ∧ t.cpu.f = s.cpu.f ∧ Passes s t 1 16) ∧
    (s.cpu.sp = 0x0001 → push r s = .fault (.wrapAccess16 0xFFFF s.cpu.pc)) := by
  rcases withPush_cases s (s.cpu.getStk r) (fun t => .next (t.retire 1 16)) with ⟨h, e⟩ | ⟨h, e⟩
  · exact ⟨fun hne => absurd ((sub_two_eq_last _).mp h) hne, fun _ => e⟩
  · exact ⟨fun _ => ⟨_, e, storeWord_result s _ _ _ 1 rfl (by decide)⟩, fun hsp => absurd ((sub_two_eq_last _).mpr hsp) h⟩

/-- Settles O12: the pair is stored below SP, or with SP = 0x0001 the fault. -/
theorem pushPair : Obligations.PushPair := by
  intro r s
  rw [exec_pushStk]
  have result := push_result r s
  exact ⟨(row_pushStk r).encode_done, by cases r <;> exact result⟩

/-- A pop answers the fault of R106, or takes its pair from the word at SP. -/
theorem pop_cases (r : R16Stk) (s : State) :
    (s.cpu.sp = 0xFFFF ∧ pop r s = .fault (.wrapAccess16 0xFFFF s.cpu.pc)) ∨
    (s.cpu.sp ≠ 0xFFFF ∧ pop r s = .next (({ s with
      cpu := (s.cpu.setStk r (pairOf (busRead s (s.cpu.sp + 1)) (busRead s s.cpu.sp))).popped } : State).retire 1 12)) :=
  withRead16_cases s s.cpu.sp _

@[simp] theorem Cpu.setF_get8 (c : Cpu) (v : Byte) (r : R8) : (c.setF v).get8 r = c.get8 r := by cases r <;> rfl

theorem Cpu.setStk_get8 (c : Cpu) {p : R16Stk} {r : R8} (h : r ∉ p.halves) (v : Word) : (c.setStk p v).get8 r = c.get8 r := by
  cases p
  case af => exact (Cpu.setF_get8 _ _ r).trans (Cpu.set8_get8_ne c (mt List.mem_singleton.mpr h) _)
  all_goals exact Cpu.set8_set8_get8 c h (hiByte v) (loByte v)

@[simp] theorem Cpu.popped_sp (c : Cpu) : c.popped.sp = c.sp + 2 := rfl

@[simp] theorem Cpu.popped_get8 (c : Cpu) (r : R8) : c.popped.get8 r = c.get8 r := by cases r <;> rfl

/-- Settles O13: the pair is written through `setStk`, or with SP = 0xFFFF the fault. -/
theorem popPair : Obligations.PopPair := by
  intro r s
  rw [exec_popStk]
  refine ⟨(row_popStk r).encode_done, ?_⟩
  rcases pop_cases r s with ⟨hsp, e⟩ | ⟨hsp, e⟩
  · exact ⟨fun h => absurd hsp h, fun _ => e⟩
  · refine ⟨fun _ => ⟨_, e, ?_, by simp, fun q hq => ?_, ?_, OnlyCpu.retire s _ 1 12⟩, fun h => absurd h hsp⟩
    · cases r
      case af => exact ⟨hiByte_pairOf _ _, congrArg (· &&& 0xF0) (loByte_pairOf _ _)⟩
      all_goals exact ⟨hiByte_pairOf _ _, loByte_pairOf _ _, rfl⟩
    · rw [State.retire_get8, Cpu.popped_get8, Cpu.setStk_get8 _ hq]
    · exact Passes.retire rfl (by decide) (by simp) (by simp) (by simp) 1

/-! ## A push and the pop after it (R252) -/

/-- A word without the low nibble of its low byte. -/
theorem pairOf_and_highNibble (v : Word) : pairOf (hiByte v) (loByte v &&& 0xF0) = v &&& 0xFFF0 := by
  have h : pairOf (hiByte v) (loByte v) &&& pairOf 0xFF 0xF0 = pairOf (hiByte v &&& 0xFF) (loByte v &&& 0xF0) := BitVec.and_append
  rw [pairOf_hi_lo, show hiByte v &&& 0xFF = hiByte v from BitVec.and_allOnes] at h
  exact h.symm

theorem Cpu.setStk_getStk (c : Cpu) (q : R16Stk) (v : Word) :
    (c.setStk q v).getStk q = if q = .af then v &&& 0xFFF0 else v := by
  cases q
  case af =>
    have mask : loByte v &&& 0xF0 &&& 0xF0 = loByte v &&& 0xF0 := by rw [BitVec.and_assoc, BitVec.and_self]
    rw [if_pos rfl, ← pairOf_and_highNibble, ← mask]
    rfl
  all_goals exact pairOf_hi_lo v

@[simp] theorem Cpu.popped_getStk (c : Cpu) (q : R16Stk) : c.popped.getStk q = c.getStk q := by cases q <;> rfl

@[simp] theorem State.retire_getStk (s : State) (len : Word) (n : Nat) (q : R16Stk) :
    (s.retire len n).cpu.getStk q = s.cpu.getStk q := by cases q <;> rfl

/-- All that a pop leaves in SP and in the pair it pops. -/
theorem pop_stack {q : R16Stk} {t u : State} (h : pop q t = .next u) :
    let v := pairOf (busRead t (t.cpu.sp + 1)) (busRead t t.cpu.sp)
    u.cpu.sp = t.cpu.sp + 2 ∧ u.cpu.getStk q = if q = .af then v &&& 0xFFF0 else v := by
  rcases pop_cases q t with ⟨-, e⟩ | ⟨-, e⟩
  · cases e.symm.trans h
  · cases e.symm.trans h
    exact ⟨by simp, by rw [State.retire_getStk, Cpu.popped_getStk, Cpu.setStk_getStk]⟩

/-- A word stored in work RAM reads back: the second byte's address is not the first's, and no echo of it. -/
theorem StoresWord.readsBack {s t : State} {a v : Word} (h : StoresWord s t a v) (h1 : 0xC000 ≤ a.toNat) (h2 : a.toNat < 0xDFFF) :
    pairOf (busRead t (a + 1)) (busRead t a) = v := by
  obtain ⟨written, -, -⟩ := h
  have next : (a + 1).toNat = a.toNat + 1 := BitVec.toNat_add_of_lt (by simp; omega)
  have reads (b : Word) : busRead t b = busRead (Machine.busWrite (Machine.busWrite s a (loByte v)) (a + 1) (hiByte v)) b := by
    rw [← written]
    exact (busRead_withCpu t s.cpu b).symm
  have high : busRead t (a + 1) = hiByte v := by
    rw [reads, busRead_busWrite_wram _ (by omega) (by omega)]
  have low : busRead t a = loByte v := by
    rw [reads, busRead_busWrite_ne, busRead_busWrite_wram s h1 (by omega)]
    · exact .inl ⟨by omega, by omega⟩
    · exact fun e => by have := congrArg BitVec.toNat e; omega
    · unfold EchoTwin
      omega
  rw [high, low, pairOf_hi_lo]

/-- Settles O14: the two bytes that the push stores are the two that the pop reads. -/
theorem pushThenPop : Obligations.PushThenPop := by
  intro r q s t u h1 h2 hpush hpop
  rw [exec_pushStk] at hpush
  rw [exec_popStk] at hpop
  have below : (s.cpu.sp - 2).toNat = s.cpu.sp.toNat - 2 := BitVec.toNat_sub_of_le (BitVec.le_def.mpr (by simp; omega))
  obtain ⟨t', e, stored, hsp, -⟩ := (push_result r s).1 (fun e => by simp [e] at h1)
  cases e.symm.trans hpush
  obtain ⟨hsp', hq⟩ := pop_stack hpop
  rw [hsp, stored.readsBack (by omega) (by omega)] at hq
  exact ⟨by rw [hsp', hsp, BitVec.sub_add_cancel], hq⟩

end Sys2Proof.Machine
end

section
/-! SUPPORT. 8-bit arithmetic and logic (41_alu8.md): what a write of A and the flags leaves behind, and the statements about it. -/

namespace Sys2Proof.Machine

/-! ## A and the flags written (R280) -/

/-- From `s` to `t` an instruction of `len` bytes and `n` T-cycles writes `x` to A and the flags, and nothing else. -/
structure WritesAF (s t : State) (x : Byte × Flags) (len : Word) (n : Nat) : Prop where
  acc : t.cpu.a = x.1
  flags : t.cpu.flags = x.2
  f_low : t.cpu.f &&& 0x0F = 0
  frame : KeepsRegs s t [.a] ∧ t.cpu.sp = s.cpu.sp ∧ Passes s t len n ∧ OnlyCpu s t

/-- A write of A and the flags is the read-modify-write of the operand A. -/
theorem setAF_writesAF (s : State) (x : Byte × Flags) (len : Word) {n : Nat} (hn : n % 4 = 0) (h4 : 4 ≤ n) :
    WritesAF s (({ s with cpu := s.cpu.setAF x } : State).retire len n) x len n := by
  obtain ⟨⟨hacc, hregs, honly⟩, ⟨hflags, hlow⟩, hsp, hpass⟩ := modify_result s (.reg .a) x len hn h4
  exact ⟨hacc, hflags, hlow, hregs, hsp, hpass, honly⟩

theorem aluOpnd_eq (op : AluOp) (o : Opnd8) (s : State) : aluOpnd op o s =
    .next (({ s with cpu := s.cpu.setAF (alu8 op s.cpu.a (s.getOpnd o) s.cpu.flags) } : State).retire 1 (byOperand o 4 8)) := by
  cases o <;> rfl

theorem exec_alu_writesAF (op : AluOp) (o : Opnd8) (s : State) :
    ∃ t, exec (Instr.alu op o) s = .next t ∧
      WritesAF s t (alu8 op s.cpu.a (s.getOpnd o) s.cpu.flags) 1 (byOperand o 4 8) := by
  refine ⟨_, (exec_alu op o s).trans (aluOpnd_eq op o s), setAF_writesAF s _ 1 ?_ ?_⟩ <;> cases o <;> simp [byOperand]

theorem exec_aluD8_writesAF (op : AluOp) (v : Byte) (s : State) :
    ∃ t, exec (Instr.aluD8 op v) s = .next t ∧ WritesAF s t (alu8 op s.cpu.a v s.cpu.flags) 2 8 :=
  ⟨_, exec_aluD8 op v s, setAF_writesAF s _ 2 rfl (by decide)⟩

theorem onAcc_writesAF (f : Byte → Flags → Byte × Flags) (s : State) :
    ∃ t, onAcc f s = .next t ∧ WritesAF s t (f s.cpu.a s.cpu.flags) 1 4 :=
  ⟨_, rfl, setAF_writesAF s _ 1 rfl (by decide)⟩

/-- What holds of every write of A and the flags by `op` holds of all its forms: a register, the byte at HL, an immediate. -/
theorem alu_forms (op : AluOp) (s : State) {result : State → Byte → Nat → Nat → Prop}
    (h : ∀ t b len n, WritesAF s t (alu8 op s.cpu.a b s.cpu.flags) (BitVec.ofNat 16 len) n → result t b len n) :
    (∀ o : Opnd8, encode (Instr.alu op o) = [opByte (0x80 + 8 * op.code + o.code)] ∧
      ∃ t, exec (Instr.alu op o) s = .next t ∧ result t (s.getOpnd o) 1 (byOperand o 4 8)) ∧
    (∀ v : Byte, encode (Instr.aluD8 op v) = [opByte (0xC6 + 8 * op.code), v] ∧
      ∃ t, exec (Instr.aluD8 op v) s = .next t ∧ result t v 2 8) := by
  refine ⟨fun o => ⟨(row_alu op o).encode_done, ?_⟩, fun v => ⟨(row_aluD8 op).encode_byte v, ?_⟩⟩
  · obtain ⟨t, e, w⟩ := exec_alu_writesAF op o s
    exact ⟨t, e, h t _ 1 _ w⟩
  · obtain ⟨t, e, w⟩ := exec_aluD8_writesAF op v s
    exact ⟨t, e, h t v 2 8 w⟩

/-! ## The accumulator operations (R281 to R288) -/

/-- The carry or borrow that goes in, as a number. -/
theorem toNat_and_eq_ite (p c : Bool) : (p && c).toNat = if p = true ∧ c = true then 1 else 0 := by
  cases p <;> cases c <;> rfl

/-- ADD, and ADC, which takes the carry in (R281, R282). -/
theorem alu8_add_or_adc (withCarry : Bool) (a b : Byte) (fl : Flags) :
    alu8 (if withCarry then .adc else .add) a b fl = add8 a b (withCarry && fl.c) := by
  cases withCarry <;> rfl

/-- ADD and ADC in numbers, the carry in as the statements write it (R281, R282). -/
theorem alu8_add_spec (withCarry : Bool) (a b : Byte) (fl : Flags) :
    let cin := if withCarry = true ∧ fl.c = true then 1 else 0
    let x := alu8 (if withCarry then .adc else .add) a b fl
    x.1.toNat = (a.toNat + b.toNat + cin) % 256 ∧
    x.2 = ⟨decide ((a.toNat + b.toNat + cin) % 256 = 0), false, decide (16 ≤ a.toNat % 16 + b.toNat % 16 + cin),
      decide (256 ≤ a.toNat + b.toNat + cin)⟩ := by
  rw [alu8_add_or_adc, ← toNat_and_eq_ite]
  exact add8_spec a b _

/-- SUB, SBC and CP in numbers: SBC alone takes the borrow in, and CP leaves A (R283, R284, R288). -/
theorem alu8_sub_spec {op : AluOp} (hop : op = .sub ∨ op = .sbc ∨ op = .cp) (a b : Byte) (fl : Flags) :
    let cin := if op = .sbc ∧ fl.c = true then 1 else 0
    let x := alu8 op a b fl
    x.1.toNat = (if op = .cp then a.toNat else (a.toNat + 512 - b.toNat - cin) % 256) ∧
    x.2 = ⟨decide ((a.toNat + 512 - b.toNat - cin) % 256 = 0), true, decide (a.toNat % 16 < b.toNat % 16 + cin),
      decide (a.toNat < b.toNat + cin)⟩ := by
  rcases hop with rfl | rfl | rfl
  · exact sub8_spec a b false
  · have borrow : fl.c.toNat = if AluOp.sbc = .sbc ∧ fl.c = true then 1 else 0 := by cases fl.c <;> rfl
    rw [← borrow]
    exact sub8_spec a b fl.c
  · exact ⟨rfl, (sub8_spec a b false).2⟩

/-- AND, XOR and OR bit by bit (R285 to R287). -/
theorem alu8_logic_spec {op : AluOp} (hop : op = .and ∨ op = .xor ∨ op = .or) (a b : Byte) (fl : Flags) :
    let x := alu8 op a b fl
    (∀ k, bit x.1 k = if op = .and then bit a k && bit b k else if op = .xor then bit a k != bit b k else bit a k || bit b k) ∧
    x.2 = ⟨decide (x.1 = 0), false, decide (op = .and), false⟩ := by
  rcases hop with rfl | rfl | rfl
  · exact ⟨bit_and a b, rfl⟩
  · exact ⟨bit_xor a b, rfl⟩
  · exact ⟨bit_or a b, rfl⟩

/-- Settles O15: all forms write A and the flags by one addition. -/
theorem addAndAdc : Obligations.AddAndAdc := by
  intro withCarry s op cin result
  refine alu_forms op s (result := fun t b => result t b.toNat) fun t b len n w => ?_
  obtain ⟨sum, flags⟩ := alu8_add_spec withCarry s.cpu.a b s.cpu.flags
  exact ⟨(congrArg BitVec.toNat w.acc).trans sum, ⟨w.flags.trans flags, w.f_low⟩, w.frame⟩

/-- Settles O16: all forms write A and the flags by one subtraction. -/
theorem subSbcAndCp : Obligations.SubSbcAndCp := by
  intro op s hop cin a result
  refine alu_forms op s (result := fun t b => result t b.toNat) fun t b len n w => ?_
  obtain ⟨difference, flags⟩ := alu8_sub_spec hop s.cpu.a b s.cpu.flags
  exact ⟨(congrArg BitVec.toNat w.acc).trans difference, ⟨w.flags.trans flags, w.f_low⟩, w.frame⟩

/-- Settles O17: all forms write A and the flags by one operation on the bits. -/
theorem andXorOr : Obligations.AndXorOr := by
  intro op s hop result
  refine alu_forms op s fun t b len n w => ?_
  obtain ⟨bits, flags⟩ := alu8_logic_spec hop s.cpu.a b s.cpu.flags
  rw [← w.acc] at bits flags
  exact ⟨fun k _ => bits k, ⟨w.flags.trans flags, w.f_low⟩, w.frame⟩

/-! ## INC and DEC (R289 to R292) -/

/-- The result of a read-modify-write of one byte that takes 4 cycles, or 12 at HL. -/
theorem modify_result_byOperand (o : Opnd8) (x : Byte × Flags) (s : State) :
    let t := (s.modify o x).retire 1 (byOperand o 4 12)
    WritesOperand s t o x.1 ∧ HasFlags t x.2.z x.2.n x.2.h x.2.c ∧ t.cpu.sp = s.cpu.sp ∧ Passes s t 1 (byOperand o 4 12) := by
  refine modify_result s o x 1 ?_ ?_ <;> cases o <;> simp [byOperand]

theorem incOpnd_eq (o : Opnd8) (s : State) :
    incOpnd o s = .next ((s.modify o (inc8 (s.getOpnd o) s.cpu.flags)).retire 1 (byOperand o 4 12)) := by
  cases o <;> rfl

theorem decOpnd_eq (o : Opnd8) (s : State) :
    decOpnd o s = .next ((s.modify o (dec8 (s.getOpnd o) s.cpu.flags)).retire 1 (byOperand o 4 12)) := by
  cases o <;> rfl

/-- Settles O18: the operand is written with the flags of `inc8` or `dec8`. -/
theorem incAndDec : Obligations.IncAndDec := by
  intro o s
  rw [exec_inc8, incOpnd_eq, inc8_spec, exec_dec8, decOpnd_eq, dec8_spec]
  exact ⟨⟨(row_inc8 o).encode_done, _, rfl, modify_result_byOperand o _ s⟩,
    ⟨(row_dec8 o).encode_done, _, rfl, modify_result_byOperand o _ s⟩⟩

/-! ## CPL, SCF and CCF (R294 to R296) -/

/-- All that a write of the flags alone does. -/
theorem onFlags_result (f : Flags → Flags) (s : State) :
    ∃ t, onFlags f s = .next t ∧
      HasFlags t (f s.cpu.flags).z (f s.cpu.flags).n (f s.cpu.flags).h (f s.cpu.flags).c ∧ KeepsRegs s t [] ∧
      t.cpu.sp = s.cpu.sp ∧ Passes s t 1 4 ∧ OnlyCpu s t := by
  refine ⟨_, rfl, ⟨by simp, Cpu.setFlags_f_low s.cpu _⟩, KeepsRegs.of_eq (by simp) [], by simp, ?_, OnlyCpu.retire s _ 1 4⟩
  exact Passes.retire rfl (by decide) (by simp) (by simp) (by simp) 1

/-- Settles O21: CPL writes A and two flags, SCF and CCF the flags alone. -/
theorem cplScfCcf : Obligations.CplScfCcf := by
  intro s
  refine ⟨⟨rfl, ?_⟩, ⟨rfl, onFlags_result scf s⟩, ⟨rfl, onFlags_result ccf s⟩⟩
  obtain ⟨t, e, w⟩ := onAcc_writesAF cpl s
  exact ⟨t, e, (congrArg BitVec.toNat w.acc).trans (complement_toNat s.cpu.a), ⟨w.flags, w.f_low⟩, w.frame⟩

/-! ## DAA (R293) -/

/-- The low test of DAA, on A and the flags before it. -/
def daaLow (a : Byte) (fl : Flags) : Bool := fl.h || !fl.n && decide (9 < a.toNat % 16)

/-- The high test of DAA, on A and the flags before it. -/
def daaHigh (a : Byte) (fl : Flags) : Bool := fl.c || !fl.n && decide (0x99 < a.toNat)

/-- What DAA adds to A, or takes from it. -/
def daaAdjust (a : Byte) (fl : Flags) : Nat := (if daaLow a fl then 6 else 0) + if daaHigh a fl then 0x60 else 0

theorem daaLow_iff (a : Byte) (fl : Flags) : daaLow a fl = true ↔ fl.h = true ∨ (fl.n = false ∧ 9 < a.toNat % 16) := by
  simp [daaLow]

theorem daaHigh_iff (a : Byte) (fl : Flags) : daaHigh a fl = true ↔ fl.c = true ∨ (fl.n = false ∧ 0x99 < a.toNat) := by
  simp [daaHigh]

theorem daa_flags (a : Byte) (fl : Flags) : (daa a fl).2 = ⟨zero8 (daa a fl).1, fl.n, false, daaHigh a fl⟩ := by
  obtain ⟨z, n, h, c⟩ := fl
  cases n
  · rfl
  · simp [daa, daaHigh]

theorem daaAdjust_le (a : Byte) (fl : Flags) : daaAdjust a fl ≤ 0x66 := by
  unfold daaAdjust
  split <;> split <;> decide

theorem daa_fst (a : Byte) (fl : Flags) : (daa a fl).1 =
    if fl.n = true then BitVec.ofInt 8 (a.toNat - daaAdjust a fl : Int) else BitVec.ofNat 8 (a.toNat + daaAdjust a fl) := by
  obtain ⟨z, n, h, c⟩ := fl
  cases n
  · rfl
  · simp [daa, daaAdjust, daaLow, daaHigh]

theorem daa_toNat (a : Byte) (fl : Flags) :
    (daa a fl).1.toNat = (if fl.n = true then a.toNat + 256 - daaAdjust a fl else a.toNat + daaAdjust a fl) % 256 := by
  have hadj := daaAdjust_le a fl
  rw [daa_fst]
  split
  · rw [BitVec.toNat_ofInt]
    omega
  · rw [BitVec.toNat_ofNat]

/-- The four cases of the two tests fix the adjustment. -/
theorem daaAdjust_unique {a : Byte} {fl : Flags} {low high : Prop} (hlow : daaLow a fl = true ↔ low)
    (hhigh : daaHigh a fl = true ↔ high) {adj : Nat} (h00 : ¬low ∧ ¬high → adj = 0) (h10 : low ∧ ¬high → adj = 6)
    (h01 : ¬low ∧ high → adj = 0x60) (h11 : low ∧ high → adj = 0x66) : daaAdjust a fl = adj := by
  unfold daaAdjust
  rw [← hlow, ← hhigh] at h00 h10 h01 h11
  split <;> split
  · exact (h11 ⟨‹_›, ‹_›⟩).symm
  · exact (h10 ⟨‹_›, ‹_›⟩).symm
  · exact (h01 ⟨‹_›, ‹_›⟩).symm
  · exact (h00 ⟨‹_›, ‹_›⟩).symm

/-- Settles O19: the two tests fix the adjustment. -/
theorem decimalAdjust : Obligations.DecimalAdjust := by
  intro s a low high
  obtain ⟨t, e, w⟩ := onAcc_writesAF daa s
  have hlow : daaLow s.cpu.a s.cpu.flags = true ↔ low := daaLow_iff _ _
  have hhigh : daaHigh s.cpu.a s.cpu.flags = true ↔ high := daaHigh_iff _ _
  have flags := w.flags.trans (daa_flags _ _)
  rw [← w.acc] at flags
  refine ⟨rfl, t, e, fun adj h00 h10 h01 h11 => ?_, congrArg Flags.z flags, by rw [flags], congrArg Flags.h flags, ?_,
    w.f_low, w.frame⟩
  · rw [w.acc, daa_toNat, daaAdjust_unique hlow hhigh h00 h10 h01 h11]
  · rw [flags]
    exact hhigh

/-! ## DAA after an addition -/

/-- Two packed decimal digits. -/
def packed (n : Nat) : Nat := n / 10 * 16 + n % 10

/-- DAA's low test after ADD or ADC of packed decimals: the low digits carry. -/
theorem packed_lowTest {x y cin : Nat} (hc : cin ≤ 1) :
    (16 ≤ packed x % 16 + packed y % 16 + cin ∨ 9 < (packed x + packed y + cin) % 256 % 16) ↔ 10 ≤ x % 10 + y % 10 + cin := by
  unfold packed
  omega

/-- DAA's high test after ADD or ADC of packed decimals: the decimal sum carries. -/
theorem packed_highTest {x y cin : Nat} (hc : cin ≤ 1) :
    (256 ≤ packed x + packed y + cin ∨ 0x99 < (packed x + packed y + cin) % 256) ↔ 100 ≤ x + y + cin := by
  have carries : 0x99 < packed x + packed y + cin ↔ 100 ≤ x + y + cin := by
    have tens : x + y + cin < 100 → x / 10 + y / 10 ≤ 9 := by omega
    unfold packed
    omega
  omega

/-- The binary sum of packed decimals with the carries' adjustments is the packed decimal sum. -/
theorem packed_adjusted {x y cin : Nat} (hx : x < 100) (hy : y < 100) (hc : cin ≤ 1) :
    ((packed x + packed y + cin) % 256 + ((if 10 ≤ x % 10 + y % 10 + cin then 6 else 0) + if 100 ≤ x + y + cin then 0x60 else 0)) % 256
      = packed ((x + y + cin) % 100) := by
  unfold packed
  split <;> split <;> omega

theorem packed_eq_zero {n : Nat} : packed n = 0 ↔ n = 0 := by
  unfold packed
  omega

theorem packed_lt {n : Nat} (hn : n < 100) : packed n < 256 := by
  unfold packed
  omega

/-- DAA after an addition of packed decimals, from the flags that the addition leaves. -/
theorem daa_after_addition {x y cin : Nat} (hx : x < 100) (hy : y < 100) (hc : cin ≤ 1) {a : Byte} {fl : Flags}
    (ha : a.toNat = (packed x + packed y + cin) % 256) (hn : fl.n = false)
    (hh : fl.h = decide (16 ≤ packed x % 16 + packed y % 16 + cin)) (hcarry : fl.c = decide (256 ≤ packed x + packed y + cin)) :
    (daa a fl).1.toNat = packed ((x + y + cin) % 100) ∧ daaHigh a fl = decide (100 ≤ x + y + cin) := by
  have low : daaLow a fl = decide (10 ≤ x % 10 + y % 10 + cin) := by
    rw [← decide_eq_decide.mpr (packed_lowTest hc), daaLow, hh, hn, ha, Bool.decide_or, Bool.not_false, Bool.true_and]
  have high : daaHigh a fl = decide (100 ≤ x + y + cin) := by
    rw [← decide_eq_decide.mpr (packed_highTest hc), daaHigh, hcarry, hn, ha, Bool.decide_or, Bool.not_false, Bool.true_and]
  refine ⟨?_, high⟩
  rw [daa_toNat, daaAdjust, low, high, hn, ha, if_neg (by decide), ← packed_adjusted hx hy hc]
  simp only [decide_eq_true_eq]

/-- Settles O20: what `daa` does with the sum and the flags of the addition before it. -/
theorem decimalAdjustAfterAddition : Obligations.DecimalAdjustAfterAddition := by
  intro withCarry x y s t u hx hy hA hadd hdaa sum
  obtain ⟨t', e, w⟩ := exec_aluD8_writesAF (if withCarry then .adc else .add) (BitVec.ofNat 8 (packed y)) s
  cases e.symm.trans hadd
  obtain ⟨u', e', w'⟩ := onAcc_writesAF daa t
  cases e'.symm.trans hdaa
  obtain ⟨hsum, hflags⟩ := alu8_add_spec withCarry s.cpu.a (BitVec.ofNat 8 (packed y)) s.cpu.flags
  have operand {n : Nat} (hn : n < 100) : (BitVec.ofNat 8 (packed n)).toNat = packed n := Nat.mod_eq_of_lt (packed_lt hn)
  have ha : s.cpu.a.toNat = packed x := (congrArg BitVec.toNat hA).trans (operand hx)
  rw [ha, operand hy] at hsum hflags
  rw [← w.acc] at hsum
  rw [← w.flags] at hflags
  have cin_le : (if withCarry = true ∧ s.cpu.flags.c = true then 1 else 0) ≤ 1 := by split <;> decide
  obtain ⟨digits, carry⟩ := daa_after_addition hx hy cin_le hsum (congrArg Flags.n hflags) (congrArg Flags.h hflags)
    (congrArg Flags.c hflags)
  have uflags := w'.flags.trans (daa_flags t.cpu.a t.cpu.flags)
  refine ⟨?_, (congrArg Flags.c uflags).trans carry, (congrArg Flags.z uflags).trans ?_⟩
  · have tens : sum % 100 / 10 = sum / 10 % 10 := by omega
    have ones : sum % 100 % 10 = sum % 10 := by omega
    rw [w'.acc, ← tens, ← ones]
    exact BitVec.eq_of_toNat_eq (digits.trans (operand (Nat.mod_lt _ (by decide))).symm)
  · exact (zero8_of_toNat digits).trans (decide_eq_decide.mpr packed_eq_zero)

end Sys2Proof.Machine
end

section
/-! SUPPORT. 16-bit arithmetic (42_alu16.md): what a write of a pair leaves behind, with and without the flags, and the statements
about it. -/

namespace Sys2Proof.Machine

/-! ## A pair written (R31, R184) -/

theorem Cpu.withF_get8 (c : Cpu) (f : Byte) (r : R8) : ({ c with f := f } : Cpu).get8 r = c.get8 r := by cases r <;> rfl

theorem Cpu.withF_get16 (c : Cpu) (f : Byte) (r : R16) : ({ c with f := f } : Cpu).get16 r = c.get16 r := by cases r <;> rfl

section
variable (s : State) (r : R16) (len : Word) {n : Nat}

/-- All that a write of a pair does beside F, whatever F is written to. -/
theorem writePair_result (v : Word) (f : Byte) (hn : n % 4 = 0) (h4 : 4 ≤ n) :
    let t := ({ s with cpu := { s.cpu.set16 r v with f := f } } : State).retire len n
    t.cpu.get16 r = v ∧ KeepsRegs s t r.halves ∧ (r ≠ .sp → t.cpu.sp = s.cpu.sp) ∧ Passes s t len n ∧ OnlyCpu s t := by
  refine ⟨?_, fun q hq => ?_, fun hr => Cpu.set16_sp s.cpu hr v, ?_, OnlyCpu.retire s _ len n⟩
  · rw [State.retire_get16, Cpu.withF_get16, Cpu.set16_get16]
  · rw [State.retire_get8, Cpu.withF_get8, Cpu.set16_get8 s.cpu hq]
  · exact Passes.retire hn h4 (by simp) (by simp) (by simp) len

/-- All that a write of a pair and the four flags does. -/
theorem writePairFlags_result (x : Word × Flags) (hn : n % 4 = 0) (h4 : 4 ≤ n) :
    let t := ({ s with cpu := (s.cpu.set16 r x.1).setFlags x.2 } : State).retire len n
    t.cpu.get16 r = x.1 ∧ HasFlags t x.2.z x.2.n x.2.h x.2.c ∧ KeepsRegs s t r.halves ∧ (r ≠ .sp → t.cpu.sp = s.cpu.sp) ∧
      Passes s t len n ∧ OnlyCpu s t := by
  obtain ⟨hpair, hframe⟩ := writePair_result s r len x.1 x.2.pack hn h4
  exact ⟨hpair, ⟨by simp, Cpu.setFlags_f_low (s.cpu.set16 r x.1) x.2⟩, hframe⟩

end

/-! ## ADD HL,rr (R330) -/

theorem add16_toNat (h v : Word) (fl : Flags) : (add16 h v fl).1.toNat = (h.toNat + v.toNat) % 65536 := BitVec.toNat_ofNat _ _

theorem add16_flags (h v : Word) (fl : Flags) : (add16 h v fl).2 =
    ⟨fl.z, false, decide (4096 ≤ h.toNat % 4096 + v.toNat % 4096), decide (65536 ≤ h.toNat + v.toNat)⟩ := rfl

/-- Settles O22: HL is written as a pair, with the flags of `add16`. -/
theorem addPairToHl : Obligations.AddToHl := by
  intro r s h v
  obtain ⟨hpair, hflags, hregs, hsp, hframe⟩ :=
    writePairFlags_result s .hl 1 (n := 8) (add16 s.cpu.hl (s.cpu.get16 r) s.cpu.flags) rfl (by decide)
  rw [add16_flags] at hflags
  refine ⟨(row_addHl r).encode_done, _, exec_addHl r s, ?_, hflags, hregs, hsp (by decide), hframe⟩
  exact (congrArg BitVec.toNat hpair).trans (add16_toNat _ _ _)

/-! ## INC rr and DEC rr (R331, R332) -/

/-- A pair written with F as it was. -/
theorem Cpu.set16_keeping_f (c : Cpu) (r : R16) (v : Word) : { c.set16 r v with f := c.f } = c.set16 r v := by cases r <;> rfl

/-- All that a write of a pair without the flags does. -/
theorem setPair_result (s : State) (r : R16) (v : Word) (len : Word) {n : Nat} (hn : n % 4 = 0) (h4 : 4 ≤ n) :
    let t := ({ s with cpu := s.cpu.set16 r v } : State).retire len n
    t.cpu.get16 r = v ∧ KeepsRegs s t r.halves ∧ (r ≠ .sp → t.cpu.sp = s.cpu.sp) ∧ t.cpu.f = s.cpu.f ∧ Passes s t len n ∧
      OnlyCpu s t := by
  obtain ⟨hpair, hregs, hsp, hframe⟩ := Cpu.set16_keeping_f s.cpu r v ▸ writePair_result s r len v s.cpu.f hn h4
  exact ⟨hpair, hregs, hsp, Cpu.set16_f s.cpu r v, hframe⟩

/-- Settles O23: the pair alone is written, one more or one less. -/
theorem incAndDecPair : Obligations.IncAndDecPair := by
  intro r s
  refine ⟨⟨(row_inc16 r).encode_done, _, exec_inc16 r s, ?_⟩, ⟨(row_dec16 r).encode_done, _, exec_dec16 r s, ?_⟩⟩
  · obtain ⟨hpair, hframe⟩ := setPair_result s r (s.cpu.get16 r + 1) 1 (n := 8) rfl (by decide)
    exact ⟨(congrArg BitVec.toNat hpair).trans (BitVec.toNat_add _ _), hframe⟩
  · obtain ⟨hpair, hframe⟩ := setPair_result s r (s.cpu.get16 r - 1) 1 (n := 8) rfl (by decide)
    have oneLess : (s.cpu.get16 r - 1).toNat = ((s.cpu.get16 r).toNat + 65535) % 65536 := by
      rw [BitVec.toNat_sub, Nat.add_comm]
      rfl
    exact ⟨(congrArg BitVec.toNat hpair).trans oneLess, hframe⟩

/-! ## ADD SP,e8 and LD HL,SP+e8 (R333, R334) -/

theorem addSp_flags (sp : Word) (u : Byte) : (addSp sp u).2 =
    ⟨false, false, decide (16 ≤ sp.toNat % 16 + u.toNat % 16), decide (256 ≤ sp.toNat % 256 + u.toNat)⟩ := rfl

/-- The sum and the flags of SP and an offset byte, written to a pair. -/
theorem writeSpSum_result (s : State) (r : R16) (u : Byte) (len : Word) {n : Nat} (hn : n % 4 = 0) (h4 : 4 ≤ n) :
    let sp := s.cpu.sp.toNat
    let x := addSp s.cpu.sp u
    let t := ({ s with cpu := (s.cpu.set16 r x.1).setFlags x.2 } : State).retire len n
    (t.cpu.get16 r).toNat = (if u.toNat < 128 then sp + u.toNat else sp + 65536 + u.toNat - 256) % 65536 ∧
      HasFlags t false false (decide (16 ≤ sp % 16 + u.toNat % 16)) (decide (256 ≤ sp % 256 + u.toNat)) ∧
      KeepsRegs s t r.halves ∧ (r ≠ .sp → t.cpu.sp = s.cpu.sp) ∧ Passes s t len n ∧ OnlyCpu s t := by
  obtain ⟨hpair, hflags, hframe⟩ := writePairFlags_result s r len (addSp s.cpu.sp u) hn h4
  rw [addSp_flags] at hflags
  exact ⟨(congrArg BitVec.toNat hpair).trans (addSp_toNat _ _), hflags, hframe⟩

/-- Settles O24: the one sum, written to SP or to HL. -/
theorem stackPointerPlusOffset : Obligations.StackPointerPlusOffset := by
  intro u s sp sum h c
  refine ⟨⟨rfl, _, rfl, ?_⟩, ⟨rfl, _, rfl, ?_⟩⟩
  · obtain ⟨hsum, hflags, hregs, -, hframe⟩ := writeSpSum_result s .sp u 2 (n := 16) rfl (by decide)
    exact ⟨hsum, hflags, hregs, hframe⟩
  · obtain ⟨hsum, hflags, hregs, hsp, hframe⟩ := writeSpSum_result s .hl u 2 (n := 12) rfl (by decide)
    exact ⟨hsum, hflags, hregs, hsp (by decide), hframe⟩

end Sys2Proof.Machine
end

section
/-! SUPPORT. Rotates, shifts and bits (43_rotate_shift_bit.md): the two directions of a rotate, what the prefixed operations leave
behind, and the statements about them. -/

namespace Sys2Proof.Machine

/-! ## The two directions (R360 to R372) -/

/-- To the left: every bit moves up one place, and bit 7 leaves. -/
theorem rotate_left_spec {op : RotOp} (hop : op = .rlc ∨ op = .rl ∨ op = .sla) (v : Byte) (c : Bool) :
    let x := rotate op v c
    x.2 = bit v 7 ∧ (bit x.1 0 = if op = .rlc then bit v 7 else if op = .rl then c else false) ∧
      ∀ k, k < 7 → bit x.1 (k + 1) = bit v k := by
  obtain ⟨left, -, -, carry⟩ := rotate_spec op v c
  have hswap : op ≠ .swap := by rintro rfl; exact absurd hop (by decide)
  rw [if_neg hswap, if_pos hop] at carry
  exact ⟨carry, (left hop).symm⟩

/-- To the right: every bit moves down one place, and bit 0 leaves. -/
theorem rotate_right_spec {op : RotOp} (hop : ¬(op = .rlc ∨ op = .rl ∨ op = .sla) ∧ op ≠ .swap) (v : Byte) (c : Bool) :
    let x := rotate op v c
    x.2 = bit v 0 ∧
      (bit x.1 7 = if op = .rrc then bit v 0 else if op = .rr then c else if op = .sra then bit v 7 else false) ∧
      ∀ k, k < 7 → bit x.1 k = bit v (k + 1) := by
  obtain ⟨-, -, right, carry⟩ := rotate_spec op v c
  rw [if_neg hop.2, if_neg hop.1] at carry
  exact ⟨carry, (right hop).symm⟩

/-! ## The accumulator rotates (R360 to R363) -/

/-- An accumulator rotate writes the rotated byte to A, and Z is 0 whatever that byte is. -/
theorem onAcc_rotateA_result (op : RotOp) (s : State) :
    let x := rotate op s.cpu.a s.cpu.flags.c
    ∃ t, onAcc (rotateA op) s = .next t ∧ t.cpu.a = x.1 ∧
      HasFlags t false false false x.2 ∧ KeepsRegs s t [.a] ∧ t.cpu.sp = s.cpu.sp ∧ Passes s t 1 4 ∧ OnlyCpu s t := by
  obtain ⟨t, e, w⟩ := onAcc_writesAF (rotateA op) s
  exact ⟨t, e, w.acc, ⟨w.flags, w.f_low⟩, w.frame⟩

/-- RLCA and RLA (R360, R362). -/
theorem onAcc_rotate_left {op : RotOp} (hop : op = .rlc ∨ op = .rl ∨ op = .sla) (s : State) :
    ∃ t, onAcc (rotateA op) s = .next t ∧
      (HasFlags t false false false (bit s.cpu.a 7) ∧ KeepsRegs s t [.a] ∧ t.cpu.sp = s.cpu.sp ∧ Passes s t 1 4 ∧ OnlyCpu s t) ∧
      (bit t.cpu.a 0 = if op = .rlc then bit s.cpu.a 7 else if op = .rl then s.cpu.flags.c else false) ∧
      ∀ k, k < 7 → bit t.cpu.a (k + 1) = bit s.cpu.a k := by
  obtain ⟨t, e, hacc, hresult⟩ := onAcc_rotateA_result op s
  obtain ⟨carry, bits⟩ := rotate_left_spec hop s.cpu.a s.cpu.flags.c
  rw [carry] at hresult
  rw [← hacc] at bits
  exact ⟨t, e, hresult, bits⟩

/-- RRCA and RRA (R361, R363). -/
theorem onAcc_rotate_right {op : RotOp} (hop : ¬(op = .rlc ∨ op = .rl ∨ op = .sla) ∧ op ≠ .swap) (s : State) :
    ∃ t, onAcc (rotateA op) s = .next t ∧
      (HasFlags t false false false (bit s.cpu.a 0) ∧ KeepsRegs s t [.a] ∧ t.cpu.sp = s.cpu.sp ∧ Passes s t 1 4 ∧ OnlyCpu s t) ∧
      (bit t.cpu.a 7 = if op = .rrc then bit s.cpu.a 0 else if op = .rr then s.cpu.flags.c else if op = .sra then bit s.cpu.a 7
        else false) ∧
      ∀ k, k < 7 → bit t.cpu.a k = bit s.cpu.a (k + 1) := by
  obtain ⟨t, e, hacc, hresult⟩ := onAcc_rotateA_result op s
  obtain ⟨carry, bits⟩ := rotate_right_spec hop s.cpu.a s.cpu.flags.c
  rw [carry] at hresult
  rw [← hacc] at bits
  exact ⟨t, e, hresult, bits⟩

/-- Settles O25: RLCA and RLA rotate A to the left, RRCA and RRA to the right. -/
theorem accumulatorRotates : Obligations.AccumulatorRotates := by
  intro s result
  exact ⟨⟨rfl, onAcc_rotate_left (op := .rlc) (by decide) s⟩, ⟨rfl, onAcc_rotate_right (op := .rrc) (by decide) s⟩,
    ⟨rfl, onAcc_rotate_left (op := .rl) (by decide) s⟩, ⟨rfl, onAcc_rotate_right (op := .rr) (by decide) s⟩⟩

/-! ## The cycles of a prefixed instruction (R364) -/

theorem prefixedCycles_eq (o : Opnd8) : prefixedCycles o = byOperand o 8 16 := by cases o <;> rfl

theorem byOperand_mod_four {reg mem : Nat} (hr : reg % 4 = 0) (hm : mem % 4 = 0) (o : Opnd8) : byOperand o reg mem % 4 = 0 := by
  cases o
  · exact hr
  · exact hm

theorem four_le_byOperand {reg mem : Nat} (hr : 4 ≤ reg) (hm : 4 ≤ mem) (o : Opnd8) : 4 ≤ byOperand o reg mem := by
  cases o
  · exact hr
  · exact hm

/-! ## The prefixed rotates and shifts (R365 to R372) -/

/-- All that a prefixed rotate or shift does: the operand takes the result, and Z says that it is 0. -/
theorem rotOpnd_result (op : RotOp) (o : Opnd8) (s : State) :
    let x := rotate op (s.getOpnd o) s.cpu.flags.c
    ∃ t, rotOpnd op o s = .next t ∧ WritesOperand s t o x.1 ∧ HasFlags t (decide (x.1 = 0)) false false x.2 ∧
      t.cpu.sp = s.cpu.sp ∧ Passes s t 2 (byOperand o 8 16) := by
  rw [rotOpnd, prefixedCycles_eq]
  exact ⟨_, rfl, modify_result s o (rotateZ op (s.getOpnd o) s.cpu.flags) 2 (byOperand_mod_four rfl rfl o)
    (four_le_byOperand (by decide) (by decide) o)⟩

/-- Settles O26: the operand takes the rotated byte, whose bits and carry `rotate_spec` gives. -/
theorem prefixedRotatesAndShifts : Obligations.PrefixedRotatesAndShifts := by
  intro op o s v left cy
  obtain ⟨hleft, hswap, hright, carry⟩ := rotate_spec op v s.cpu.flags.c
  obtain ⟨t, e, hwrites, hflags, hframe⟩ := rotOpnd_result op o s
  rw [carry] at hflags
  exact ⟨(prefixedRow_rot op o).encodes, t, _, (exec_rot op o s).trans e, hwrites, hleft, hswap, hright, hflags, hframe⟩

/-! ## BIT (R373) -/

/-- All that a write of the flags alone does, for any length and time. -/
theorem setFlags_result (s : State) (fl : Flags) (len : Word) {n : Nat} (hn : n % 4 = 0) (h4 : 4 ≤ n) :
    let t := ({ s with cpu := s.cpu.setFlags fl } : State).retire len n
    HasFlags t fl.z fl.n fl.h fl.c ∧ KeepsRegs s t [] ∧ t.cpu.sp = s.cpu.sp ∧ Passes s t len n ∧ OnlyCpu s t := by
  refine ⟨⟨by simp, Cpu.setFlags_f_low s.cpu fl⟩, KeepsRegs.of_eq (by simp) [], rfl, ?_, OnlyCpu.retire s _ len n⟩
  exact Passes.retire hn h4 rfl rfl rfl len

theorem bitOpnd_eq (b : Nat) (o : Opnd8) (s : State) : bitOpnd b o s =
    .next (({ s with cpu := s.cpu.setFlags (bitTest b (s.getOpnd o) s.cpu.flags) } : State).retire 2 (byOperand o 8 12)) := by
  cases o <;> rfl

/-- Settles O27: BIT writes the flags of `bitTest` alone. -/
theorem bitTests : Obligations.BitTests := by
  intro b o s hb
  exact ⟨(prefixedRow_bitB hb o).encodes, _, (exec_bitB hb o s).trans (bitOpnd_eq b o s),
    setFlags_result s (bitTest b (s.getOpnd o) s.cpu.flags) 2 (byOperand_mod_four rfl rfl o)
      (four_le_byOperand (by decide) (by decide) o)⟩

/-! ## RES and SET (R374, R375) -/

/-- All that a write of an operand by a prefixed instruction does. -/
theorem prefixed_put_result (s : State) (o : Opnd8) (x : Byte) :
    let t := (s.putOpnd o x).retire 2 (prefixedCycles o)
    WritesOperand s t o x ∧ t.cpu.f = s.cpu.f ∧ t.cpu.sp = s.cpu.sp ∧ Passes s t 2 (byOperand o 8 16) := by
  rw [prefixedCycles_eq]
  exact put_result s o x 2 (byOperand_mod_four rfl rfl o) (four_le_byOperand (by decide) (by decide) o)

/-- Settles O28: the operand is written with `bitReset` or `bitSet` of its value. -/
theorem bitResetsAndSets : Obligations.BitResetsAndSets := by
  intro b o s hb
  have bits := bitReset_bitSet_spec (s.getOpnd o) b hb
  constructor
  · obtain ⟨hwrites, hframe⟩ := prefixed_put_result s o (bitReset b (s.getOpnd o))
    exact ⟨(prefixedRow_resB hb o).encodes, _, _, exec_resB hb o s, hwrites, fun k hk => (bits k hk).1, hframe⟩
  · obtain ⟨hwrites, hframe⟩ := prefixed_put_result s o (bitSet b (s.getOpnd o))
    exact ⟨(prefixedRow_setB hb o).encodes, _, _, exec_setB hb o s, hwrites, fun k hk => (bits k hk).2, hframe⟩

end Sys2Proof.Machine
end

section
/-! SUPPORT. Control transfer (44_control.md): what a jump, a transfer not taken and a RETI leave behind, and the statements about them. -/

namespace Sys2Proof.Machine

/-! ## Jumps (R401, R403, R404) -/

/-- All that a jump does. -/
theorem jump_result (s : State) (target : Word) {n : Nat} (hn : n % 4 = 0) (h4 : 4 ≤ n) :
    let t := s.jump target n
    JumpsTo s t target n ∧ KeepsRegs s t [] ∧ t.cpu.f = s.cpu.f ∧ t.cpu.sp = s.cpu.sp ∧ OnlyCpu s t :=
  ⟨⟨rfl, report_reported hn h4, rfl, rfl⟩, KeepsRegs.of_eq (by simp) [], rfl, rfl, OnlyCpu.jump s s.cpu target n⟩

/-- Settles O30: each form is one jump, JR's to the target of `relTarget_spec`. -/
theorem jumps : Obligations.Jumps := by
  refine ⟨fun w s => ⟨rfl, _, rfl, ?_⟩, fun s => ⟨rfl, _, rfl, ?_⟩, fun e s => ⟨rfl, _, rfl, ?_⟩⟩
  · exact jump_result s w rfl (by decide)
  · exact jump_result s s.cpu.hl rfl (by decide)
  · rw [← relTarget_spec]
    exact jump_result s (relTarget s.cpu.pc e) rfl (by decide)

/-! ## Conditional transfers (R400) -/

/-- All that an instruction does that only passes. -/
theorem retire_result (s : State) (len : Word) {n : Nat} (hn : n % 4 = 0) (h4 : 4 ≤ n) :
    let t := s.retire len n
    Passes s t len n ∧ KeepsRegs s t [] ∧ t.cpu.f = s.cpu.f ∧ t.cpu.sp = s.cpu.sp ∧ OnlyCpu s t :=
  ⟨Passes.retire hn h4 rfl rfl rfl len, KeepsRegs.of_eq (by simp) [], rfl, rfl, OnlyCpu.retire s s.cpu len n⟩

section
variable {k : Cond} {s : State} (len : Word) {n : Nat}

theorem whenCond_taken (h : k.test s.cpu.flags.z s.cpu.flags.c) (n : Nat) (taken : State → Result) :
    whenCond k len n taken s = taken s := by
  rcases whenCond_cases s k len n taken with ⟨-, e⟩ | ⟨hnot, -⟩
  · exact e
  · exact absurd h hnot

/-- All that a transfer not taken does, whatever it would have done. -/
theorem whenCond_notTaken (h : ¬k.test s.cpu.flags.z s.cpu.flags.c) (hn : n % 4 = 0) (h4 : 4 ≤ n) (taken : State → Result) :
    ∃ t, whenCond k len n taken s = .next t ∧
      Passes s t len n ∧ KeepsRegs s t [] ∧ t.cpu.f = s.cpu.f ∧ t.cpu.sp = s.cpu.sp ∧ OnlyCpu s t := by
  rcases whenCond_cases s k len n taken with ⟨htest, -⟩ | ⟨-, e⟩
  · exact absurd htest h
  · exact ⟨_, e, retire_result s len hn h4⟩

end

/-- All that a conditional jump does, taken or not. -/
theorem whenCond_jump_result (k : Cond) (s : State) (len : Word) (target : State → Word) {m n : Nat} (hm : m % 4 = 0) (h4m : 4 ≤ m)
    (hn : n % 4 = 0) (h4n : 4 ≤ n) :
    ∃ t, whenCond k len n (fun s => .next (s.jump (target s) m)) s = .next t ∧
      (k.test s.cpu.flags.z s.cpu.flags.c → JumpsTo s t (target s) m) ∧ (¬k.test s.cpu.flags.z s.cpu.flags.c → Passes s t len n) ∧
      KeepsRegs s t [] ∧ t.cpu.f = s.cpu.f ∧ t.cpu.sp = s.cpu.sp ∧ OnlyCpu s t := by
  by_cases htest : k.test s.cpu.flags.z s.cpu.flags.c
  · obtain ⟨hjumps, hframe⟩ := jump_result s (target s) hm h4m
    exact ⟨_, whenCond_taken len htest n _, fun _ => hjumps, fun hnot => absurd htest hnot, hframe⟩
  · obtain ⟨t, e, hpasses, hframe⟩ := whenCond_notTaken len htest hn h4n (fun s => .next (s.jump (target s) m))
    exact ⟨t, e, fun h => absurd h htest, fun _ => hpasses, hframe⟩

/-- Settles O31: both forms are the conditional jump, JR's to the target of `relTarget_spec`. -/
theorem conditionalJumps : Obligations.ConditionalJumps := by
  refine fun k s => ⟨fun w => ⟨(row_jpCc k).encode_word w, ?_⟩, fun e => ⟨(row_jrCc k).encode_byte e, ?_⟩⟩
  · rw [exec_jpCc]
    exact whenCond_jump_result k s 3 (fun _ => w) rfl (by decide) rfl (by decide)
  · rw [exec_jrCc, ← relTarget_spec]
    exact whenCond_jump_result k s 2 (fun s => relTarget s.cpu.pc e) rfl (by decide) rfl (by decide)

/-! ## Calls (R406, R407, R410) -/

/-- Settles O32: every form is `callTo`, `CALL cc` under its condition. -/
theorem callsAndRestarts : Obligations.CallsAndRestarts := by
  intro s calls wrap
  have call (w : Word) := callTo_result s (s.cpu.pc + 3) w (n := 24) rfl (by decide)
  refine ⟨fun w => ⟨rfl, call w⟩, fun y hy => ⟨(row_rst hy).encode_done, ?_⟩, fun k w => ⟨(row_callCc k).encode_word w, ?_⟩⟩
  · rw [exec_rst hy, Nat.mul_comm]
    exact callTo_result s (s.cpu.pc + 1) (BitVec.ofNat 16 (y * 8)) rfl (by decide)
  · rw [exec_callCc]
    obtain ⟨pushes, faults⟩ := call w
    exact ⟨fun hnot => whenCond_notTaken 3 hnot rfl (by decide) _, fun htest => whenCond_taken 3 htest 12 _ ▸ pushes,
      fun htest => whenCond_taken 3 htest 12 _ ▸ faults⟩

/-! ## Returns (R408, R409, R412) -/

/-- All that a RETI does, and when it faults (R106, R412). -/
theorem returnEnable_result (s : State) :
    (s.cpu.sp ≠ 0xFFFF → ∃ t, returnEnable s = .next t ∧
      t.cpu.pc = pairOf (busRead s (s.cpu.sp + 1)) (busRead s s.cpu.sp) ∧ t.reported = 16 ∧ t.cpu.ime = .enabled ∧
      t.cpu.halted = s.cpu.halted ∧ t.cpu.sp = s.cpu.sp + 2 ∧ KeepsRegs s t [] ∧ t.cpu.f = s.cpu.f ∧ OnlyCpu s t) ∧
    (s.cpu.sp = 0xFFFF → returnEnable s = .fault (.wrapAccess16 0xFFFF s.cpu.pc)) := by
  rcases withRead16_cases s s.cpu.sp
    (fun v => .next (({ s with cpu := { s.cpu.popped with ime := .enabled } } : State).jump v 16)) with ⟨hsp, e⟩ | ⟨hsp, e⟩
  · exact ⟨fun h => absurd hsp h, fun _ => e⟩
  · refine ⟨fun _ => ⟨_, e, rfl, rfl, rfl, rfl, rfl, KeepsRegs.of_eq (fun r => ?_) [], rfl, OnlyCpu.jump s _ _ _⟩,
      fun h => absurd h hsp⟩
    cases r <;> rfl

/-- Settles O33: RET and `RET cc` are `returnTo`, RETI is `returnEnable`. -/
theorem returns : Obligations.Returns := by
  intro s word popped wrap
  obtain ⟨retPops, retFaults⟩ := returnTo_result s (n := 16) rfl (by decide)
  obtain ⟨ccPops, ccFaults⟩ := returnTo_result s (n := 20) rfl (by decide)
  obtain ⟨retiPops, retiFaults⟩ := returnEnable_result s
  refine ⟨rfl, rfl, fun hsp => ⟨retPops hsp, retiPops hsp⟩, fun hsp => ⟨retFaults hsp, retiFaults hsp⟩,
    fun k => ⟨(row_retCc k).encode_done, ?_⟩⟩
  rw [exec_retCc]
  exact ⟨fun hnot => whenCond_notTaken 1 hnot rfl (by decide) _, fun htest => whenCond_taken 1 htest 8 _ ▸ ccPops,
    fun htest => whenCond_taken 1 htest 8 _ ▸ ccFaults⟩

end Sys2Proof.Machine
end

section
/-! SUPPORT. The prefix byte and the system instructions (45_system.md): that a prefixed instruction completes, what a change of IME
and the halted mark leaves behind, and the statements about them. -/

namespace Sys2Proof.Machine

/-! ## The prefix byte (R445) -/

/-- No prefixed instruction faults: the stack and the pair accesses of R106 are not among them. -/
theorem prefixed_next (op2 : Byte) (s : State) : ∃ t, prefixed op2 s = .next t := by
  unfold prefixed
  split
  · exact ⟨_, rfl⟩
  · exact ⟨_, bitOpnd_eq _ _ s⟩
  · exact ⟨_, rfl⟩
  · exact ⟨_, rfl⟩

/-- Settles O29: the instruction is the second byte's row of the prefixed map, which `prefixed_eq` says the prefix row runs. -/
theorem prefixByte : Obligations.PrefixByte := by
  intro op2 s
  obtain ⟨t, hnext⟩ := prefixed_next op2 s
  exact ⟨rfl, decodePrefixed op2, t, decode_prefixed op2 [], hnext, (prefixed_eq op2 s).symm.trans hnext⟩

/-! ## NOP, HALT, DI and EI (R440, R441, R443, R444) -/

/-- All that a one-byte instruction does that sets IME and the halted mark. -/
theorem setImeHalted_result (s : State) (ime : Ime) (halted : Bool) :
    let t := ({ s with cpu := { s.cpu with ime := ime, halted := halted } } : State).retire 1 4
    t.cpu.pc = s.cpu.pc + 1 ∧ t.reported = 4 ∧ t.cpu.ime = ime ∧ t.cpu.halted = halted ∧ KeepsRegs s t [] ∧ t.cpu.f = s.cpu.f ∧
      t.cpu.sp = s.cpu.sp ∧ OnlyCpu s t := by
  refine ⟨rfl, rfl, rfl, rfl, KeepsRegs.of_eq (fun r => ?_) [], rfl, rfl, OnlyCpu.retire s _ 1 4⟩
  cases r <;> rfl

/-- EI delays only a Disabled IME (R444). -/
theorem eiIme_eq (ime : Ime) : (if ime = .disabled then .pending else ime) =
    (match ime with | .disabled => .pending | .pending => .pending | .enabled => .enabled : Ime) := by
  cases ime <;> rfl

/-- Settles O34: each of the four sets IME and the halted mark, NOP to what they were. -/
theorem nopHaltDiEi : Obligations.NopHaltDiEi := by
  intro s result
  refine ⟨⟨rfl, _, rfl, ?_⟩, ⟨rfl, _, rfl, ?_⟩, ⟨rfl, _, rfl, ?_⟩, ⟨rfl, _, rfl, ?_⟩⟩
  · exact setImeHalted_result s s.cpu.ime s.cpu.halted
  · exact setImeHalted_result s s.cpu.ime true
  · exact setImeHalted_result s .disabled s.cpu.halted
  · exact eiIme_eq s.cpu.ime ▸ setImeHalted_result s _ s.cpu.halted

/-! ## STOP and the illegal opcodes (R442, R446) -/

/-- Settles O35: the rows of STOP and of the eleven bytes, one by one. -/
theorem stopAndIllegalOpcodes : Obligations.StopAndIllegalOpcodes := by
  refine fun s => ⟨fun n => ⟨rfl, rfl⟩, fun p hp => ?_⟩
  fin_cases hp <;> exact ⟨rfl, rfl⟩

end Sys2Proof.Machine
end

section
/-! SUPPORT. Steps, interrupts and faults (60_exceptions.md): what a step is at each kind of boundary, the dispatch, IME, the fault mark. -/

namespace Sys2Proof.Machine

/-! ## The step over the CPU's part of an M-cycle (R130, R540) -/

theorem step_marked {s : State} {f : Fault} (h : s.fault = some f) : step s = .fault f := by
  unfold step machineStep
  rw [h]

theorem step_of_next {s t : State} (h : s.fault = none) (e : cpuMcycle s = .next t) : step s = .next (devices t) := by
  unfold step machineStep
  rw [h, e]

theorem step_of_fault {s : State} {f : Fault} (h : s.fault = none) (e : cpuMcycle s = .fault f) : step s = .fault f := by
  unfold step machineStep
  rw [h, e]

theorem step_congr {s t : State} (h : s.fault = t.fault) (e : cpuMcycle s = cpuMcycle t) : step s = step t := by
  unfold step machineStep
  rw [h, e]

/-! ## An instruction at a boundary (R190, R506, R520) -/

theorem cpuMcycle_undisturbed {s : State} (hb : AtBoundary s) (hu : Undisturbed s) : cpuMcycle s = runInstruction s := by
  rw [cpuMcycle_boundary hb, cpuStep, handleInterrupt_none hu]

theorem executeInstruction_fetched {s : State} {i : Instr} (h : fetch s = .ok i) : executeInstruction s = exec i s := by
  rw [executeInstruction, h]

theorem runInstruction_next {s t : State} {i : Instr} (h : fetch s = .ok i) (e : exec i s = .next t) :
    runInstruction s = .next (promoteIme s.cpu.ime t) := by
  rw [runInstruction, executeInstruction_fetched h, e]

theorem runInstruction_fault {s : State} {i : Instr} {f : Fault} (h : fetch s = .ok i) (e : exec i s = .fault f) :
    runInstruction s = .fault f := by
  rw [runInstruction, executeInstruction_fetched h, e]

/-- An instruction faults, in its fetch or its meaning, or its next state goes through the IME transition. -/
theorem runInstruction_cases (s : State) :
    (∃ f, runInstruction s = .fault f) ∨
    (∃ i t, fetch s = .ok i ∧ exec i s = .next t ∧ runInstruction s = .next (promoteIme s.cpu.ime t)) := by
  cases hf : fetch s with
  | error f => exact .inl ⟨f, by rw [runInstruction, executeInstruction, hf]⟩
  | ok i =>
    cases he : exec i s with
    | next t => exact .inr ⟨i, t, rfl, he, runInstruction_next hf he⟩
    | fault f => exact .inl ⟨f, runInstruction_fault hf he⟩
    | refused r => exact absurd he (exec_not_refused i s r)

/-- Settles O36: the fetch gives the instruction, and with nothing dispatched the CPU's M-cycle is that instruction. -/
theorem stepRunsDecodedInstruction : Obligations.StepRunsDecodedInstruction := by
  intro s i rest hb hu hd hwrap
  have fetched := fetch_of_decode hd hwrap
  have run := cpuMcycle_undisturbed hb hu
  exact ⟨fun t ht => step_of_next hb.1 (run.trans (runInstruction_next fetched ht)),
    fun f hf => step_of_fault hb.1 (run.trans (runInstruction_fault fetched hf))⟩

/-! ## The slot and HALT (R505, R520) -/

theorem wakes_iff (s : State) : wakes s = true ↔
    (if s.params.haltWakeNeedsIe then s.ie &&& s.ifReg &&& 0x1F else s.ifReg &&& 0x1F) ≠ 0 := by
  unfold wakes State.serviceable
  split <;> exact decide_eq_true_iff

/-- A CPU that is awake goes on as if it had not been halted. -/
theorem step_awake {s : State} (hb : s.cpu.busy = 0) (hw : wakes s = true) :
    step s = step { s with cpu := { s.cpu with halted := false } } := by
  refine step_congr rfl ?_
  rw [cpuMcycle_awake hb (fun _ => hw)]
  exact (cpuMcycle_awake (s := { s with cpu := { s.cpu with halted := false } }) hb nofun).symm

/-- Settles O39: the three cases of the CPU's M-cycle before it comes to a boundary. -/
theorem busyAndHaltedSteps : Obligations.BusyAndHaltedSteps := by
  intro s hf
  refine ⟨fun n hn => step_of_next hf (cpuMcycle_busy hn), ?_⟩
  intro hb hh condition
  refine ⟨fun hc => ?_, fun hc => ?_⟩
  · exact step_of_next hf (cpuMcycle_asleep hb hh (Bool.eq_false_iff.mpr fun hw => hc ((wakes_iff s).mp hw)))
  · exact step_awake hb ((wakes_iff s).mpr hc)

/-! ## Interrupt dispatch (R500, R502, R503, R504) -/

/-- The lowest set bit is the one below which no bit is set. -/
theorem lowestSet_eq {p : Byte} {n : Nat} (hn : n < 5) (h : bit p n = true) (low : ∀ m, m < n → bit p m = false) :
    lowestSet p = n := by
  unfold lowestSet
  interval_cases n <;> simp [h, low]

/-- Below bit 5 the serviceable sources are those set in IE and IF (R502). -/
theorem bit_serviceable (s : State) {k : Nat} (hk : k < 5) : bit s.serviceable k = bit (s.ie &&& s.ifReg) k := by
  have mask : bit 0x1F k = true := by revert k; decide
  rw [State.serviceable, bit_and, mask, Bool.and_true]

theorem bit_clear (v : Byte) {n k : Nat} (hn : n < 5) (hk : k < 8) :
    bit (v &&& ~~~((1 : Byte) <<< n)) k = (bit v k && decide (k ≠ n)) := by
  have mask : ∀ n < 5, ∀ k < 8, bit (~~~((1 : Byte) <<< n)) k = decide (k ≠ n) := by decide
  rw [bit_and, mask n hn k hk]

/-- With IME Enabled the lowest source set in IE and IF is entered (R503, R504). -/
theorem handleInterrupt_lowest {s : State} {n : Nat} (hime : s.cpu.ime = .enabled) (hn : n < 5)
    (h : bit (s.ie &&& s.ifReg) n = true) (low : ∀ m, m < n → bit (s.ie &&& s.ifReg) m = false) :
    handleInterrupt s = some (enterInterrupt n s) := by
  rw [← bit_serviceable s hn] at h
  have pending : s.serviceable ≠ 0 := by
    intro none
    rw [none] at h
    simp [bit] at h
  have lowest : lowestSet s.serviceable = n :=
    lowestSet_eq hn h fun m hm => (bit_serviceable s (hm.trans hn)).trans (low m hm)
  rw [handleInterrupt, if_pos ⟨hime, pending⟩, lowest]

/-- Settles O38: the M-cycle is the entry of source n, whose push faults exactly with SP = 0x0001. -/
theorem interruptDispatch : Obligations.InterruptDispatch := by
  intro s n hb hime hn h low
  have hcpu : cpuMcycle s = enterInterrupt n s := by
    rw [cpuMcycle_boundary hb, cpuStep, handleInterrupt_lowest hime hn h low]
  rcases enterInterrupt_cases n s with ⟨hsp, e⟩ | ⟨hsp, e⟩
  · exact ⟨fun hne => absurd ((sub_two_eq_last _).mp hsp) hne, fun _ => step_of_fault hb.1 (hcpu.trans e)⟩
  · refine ⟨fun _ => ⟨_, hcpu.trans e, step_of_next hb.1 (hcpu.trans e), rfl, rfl, rfl, rfl, hb.2.2,
      fun r _ => by cases r <;> rfl, rfl, { s with ifReg := s.ifReg &&& ~~~((1 : Byte) <<< n) }, rfl,
      fun k hk => bit_clear s.ifReg hn hk, ?_⟩, fun heq => absurd ((sub_two_eq_last _).mpr heq) hsp⟩
    rw [← busWrite_withCpu, ← busWrite_withCpu]

/-! ## IME (R506) -/

theorem writesIme_iff (i : Instr) : writesIme i = true ↔ i = .ei ∨ i = .di ∨ i = .reti := by
  unfold writesIme
  split <;> simp_all

theorem exec_keeps_ime {i : Instr} {s t : State} (h : exec i s = .next t) (hi : writesIme i = false) : t.cpu.ime = s.cpu.ime :=
  (exec_effect h).ime (by rw [hi]; rfl)

theorem promoteIme_pending (t : State) :
    (promoteIme .pending t).cpu.ime = if t.cpu.ime = .pending then .enabled else t.cpu.ime := by
  unfold promoteIme
  by_cases h : t.cpu.ime = .pending
  · rw [if_pos ⟨rfl, h⟩, if_pos h]
  · rw [if_neg (fun e => h e.2), if_neg h]

/-- What the three instructions that write IME leave of a Pending one, and what the others do. -/
theorem exec_pending_ime {i : Instr} {s t : State} (hp : s.cpu.ime = .pending) (h : exec i s = .next t) :
    t.cpu.ime = if i = .di then .disabled else if i = .reti then .enabled else .pending := by
  cases hi : writesIme i with
  | false =>
    have others : ¬(i = .ei ∨ i = .di ∨ i = .reti) := by rw [← writesIme_iff, hi]; decide
    obtain ⟨-, hdi, hreti⟩ := by simpa only [not_or] using others
    rw [if_neg hdi, if_neg hreti, exec_keeps_ime h hi, hp]
  | true =>
    rcases (writesIme_iff i).mp hi with rfl | rfl | rfl
    · cases h
      exact (if_neg (by rw [hp]; decide)).trans hp
    · cases h
      rfl
    · obtain ⟨pops, faults⟩ := returnEnable_result s
      by_cases hsp : s.cpu.sp = 0xFFFF
      · cases (faults hsp).symm.trans h
      · obtain ⟨u, e, -, -, enabled, -⟩ := pops hsp
        cases e.symm.trans h
        exact enabled

/-- Settles O40: IME is as before but for the three, and the transition takes what is still Pending to Enabled. -/
theorem enableLatency : Obligations.EnableLatency := by
  refine ⟨fun i s t h hne => ?_, fun s t i hp hfetch hrun => ?_, fun s h => handleInterrupt_none (.inl h)⟩
  · refine (writesIme_iff i).mp ?_
    by_contra hno
    exact hne (exec_keeps_ime h (Bool.eq_false_iff.mpr hno))
  · rcases runInstruction_cases s with ⟨f, e⟩ | ⟨j, u, hj, hexec, e⟩
    · cases e.symm.trans hrun
    · cases hj.symm.trans hfetch
      cases e.symm.trans hrun
      rw [hp, promoteIme_pending, exec_pending_ime hp hexec]
      by_cases hdi : i = .di
      · simp [hdi]
      · by_cases hreti : i = .reti <;> simp [hdi, hreti]

/-! ## The fault mark (R510, R540) -/

/-- A result that is no refusal, and whose next state carries the mark `m`. -/
def CarriesMark (m : Option Fault) : Result → Prop
  | .next t => t.fault = m
  | .fault _ => True
  | .refused _ => False

theorem promoteIme_fault (ime0 : Ime) (s : State) : (promoteIme ime0 s).fault = s.fault := by unfold promoteIme; split <;> rfl

theorem runInstruction_carriesMark (s : State) : CarriesMark s.fault (runInstruction s) := by
  rcases runInstruction_cases s with ⟨f, e⟩ | ⟨i, t, -, he, e⟩ <;> rw [e]
  · trivial
  · exact (promoteIme_fault _ t).trans (exec_effect he).stored.untouched.fault

theorem enterInterrupt_carriesMark (n : Nat) (s : State) : CarriesMark s.fault (enterInterrupt n s) := by
  rcases enterInterrupt_cases n s with ⟨_, e⟩ | ⟨_, e⟩ <;> rw [e]
  · trivial
  · show (busWrite (busWrite _ _ _) _ _).fault = s.fault
    rw [busWrite_fault, busWrite_fault]

theorem cpuStep_carriesMark (s : State) : CarriesMark s.fault (cpuStep s) := by
  unfold cpuStep handleInterrupt
  split_ifs
  · exact enterInterrupt_carriesMark _ s
  · exact runInstruction_carriesMark s

theorem cpuMcycle_carriesMark (s : State) : CarriesMark s.fault (cpuMcycle s) := by
  unfold cpuMcycle
  split_ifs
  · rfl
  · rfl
  · exact cpuStep_carriesMark { s with cpu := { s.cpu with halted := false } }

/-- Settles O41: the CPU's M-cycle keeps the mark and refuses nothing, the devices keep the mark, and a marked machine stops at once. -/
theorem faultsEndTheRun : Obligations.FaultsEndTheRun := by
  intro s
  have mark := cpuMcycle_carriesMark s
  refine ⟨fun f => step_marked, fun f => step_marked rfl, ?_⟩
  cases hs : s.fault with
  | some f =>
    rw [step_marked hs]
    exact ⟨fun _ => nofun, fun _ => nofun⟩
  | none =>
    cases hc : cpuMcycle s with
    | fault f =>
      rw [step_of_fault hs hc]
      exact ⟨fun _ => nofun, fun _ => nofun⟩
    | refused r =>
      rw [hc] at mark
      exact mark.elim
    | next u =>
      rw [hc] at mark
      rw [step_of_next hs hc]
      refine ⟨fun _ => nofun, fun t ht => ⟨rfl, ?_⟩⟩
      cases ht
      exact (devices_keep u).fault.trans (mark.trans hs)

end Sys2Proof.Machine
end

section
/-! SUPPORT. The timer, the serial port and the joypad in one M-cycle (60_exceptions.md R522, R523, R530 to R532), and a
whole serial transfer. -/

namespace Sys2Proof.Machine

/-- A register that may gain one bit, bit by bit. -/
theorem bit_request (c : Prop) [Decidable c] (v : Byte) {n k : Nat} (hn : n < 8) (hk : k < 8) :
    bit (if c then v ||| flagBit true n else v) k = (bit v k || (decide c && decide (k = n))) := by
  by_cases h : c
  · rw [if_pos h, bit_or, bit_flagBit true n k hn hk, decide_eq_true h]
  · rw [if_neg h, decide_eq_false h, Bool.false_and, Bool.or_false]

/-! ## The timer (R522, R523) -/

/-- The timer after the deferred reload, if there was one to do (R523). -/
def Timer.settled (t : Timer) : Timer := if t.overflowPending then t.reload else t

@[simp] theorem Timer.settled_divider (t : Timer) : t.settled.divider = t.divider := by unfold Timer.settled; split <;> rfl

@[simp] theorem Timer.settled_tma (t : Timer) : t.settled.tma = t.tma := by unfold Timer.settled; split <;> rfl

@[simp] theorem Timer.settled_tac (t : Timer) : t.settled.tac = t.tac := by unfold Timer.settled; split <;> rfl

@[simp] theorem Timer.settled_overflowPending (t : Timer) : t.settled.overflowPending = false := by
  unfold Timer.settled
  split
  · rfl
  · next h => exact Bool.eq_false_iff.mpr h

theorem Timer.settled_tima (t : Timer) : t.settled.tima = if t.overflowPending = true then t.tma else t.tima :=
  apply_ite Timer.tima _ _ _

theorem timerMcycle_timer_settled (s : State) : (timerMcycle s).timer = s.timer.settled.advance :=
  (timerMcycle_timer s).trans (apply_ite Timer.advance _ _ _).symm

@[simp] theorem Timer.advance_divider (t : Timer) : t.advance.divider = t.divider + 4 := by
  unfold Timer.advance; dsimp only; split <;> simp

@[simp] theorem Timer.advance_tma (t : Timer) : t.advance.tma = t.tma := by unfold Timer.advance; dsimp only; split <;> simp

/-- An M-cycle makes the input fall when it was 1 before the divider's 4 and is not after (R522). -/
theorem Timer.advance_counts (t : Timer) :
    Timer.CountsOn (t.input t.divider = true ∧ ¬t.input (t.divider + 4) = true) t t.advance := by
  unfold Timer.advance
  dsimp only
  split
  · next h => exact ⟨fun _ => ⟨by simp, by simp⟩, absurd (by simpa using h)⟩
  · next h => exact ⟨fun e => absurd (by simpa using e) h, fun _ => ⟨rfl, rfl⟩⟩

/-- Settles O49: the deferred reload, then the divider and its falling edge, and IF's request for the reload. -/
theorem timerMcycle_spec : Obligations.TimerMcycle := by
  intro s t place on old new start
  have hnew : (s.timer.divider + 4).toNat = new := BitVec.toNat_add _ _
  obtain ⟨counted, still⟩ := s.timer.settled.advance_counts
  rw [Timer.input_iff, Timer.input_iff, Timer.settled_tac, Timer.settled_divider, hnew] at counted still
  rw [Timer.settled_tima, Timer.settled_overflowPending] at counted still
  have htimer : t.timer = s.timer.settled.advance := timerMcycle_timer_settled s
  rw [htimer]
  refine ⟨?_, by simp, by simp, fun h => ?_, still, fun k hk => ?_, ?_⟩
  · rw [Timer.advance_divider, Timer.settled_divider, hnew]
  · simpa using counted h
  · have request : t.ifReg = if s.timer.overflowPending = true then s.ifReg ||| flagBit true 2 else s.ifReg := timerMcycle_ifReg s
    rw [request, bit_request _ _ (by decide) hk, Bool.decide_eq_true]
  · exact congrArg (fun u : State => { u with timer := s.timer, ifReg := s.ifReg }) (timerMcycle_eq s)

/-! ## The serial port (R530, R531) -/

theorem serialMcycle_tick {s : State} (hb : s.serial.bits ≠ 0) (hc : s.serial.clock + 4 ≠ 512) :
    serialMcycle s = { s with serial := { s.serial with clock := s.serial.clock + 4 } } :=
  (if_neg hb).trans (if_neg hc)

theorem serialMcycle_shift {s : State} (hb : s.serial.bits ≠ 0) (hl : s.serial.bits ≠ 1) (hc : s.serial.clock + 4 = 512) :
    serialMcycle s = { s with serial := s.serial.shift } :=
  (if_neg hb).trans ((if_pos hc).trans (if_neg hl))

theorem serialMcycle_last {s : State} (hl : s.serial.bits = 1) (hc : s.serial.clock + 4 = 512) :
    serialMcycle s = { s with
      serial := { s.serial.shift with sc := s.serial.sc &&& 0x7F }
      ifReg := s.ifReg ||| 0x08 } :=
  (if_neg (by rw [hl]; decide)).trans ((if_pos hc).trans (if_pos hl))

/-- The low `n` bits of a byte are 1. -/
def LowOnes (n : Nat) (v : Byte) : Prop := ∀ k, k < n → bit v k = true

theorem LowOnes.eight {v : Byte} (h : LowOnes 8 v) : v = 0xFF := by
  refine BitVec.eq_of_getLsbD_eq fun k hk => (h k hk).trans ?_
  have ones : ∀ k < 8, true = (0xFF : Byte).getLsbD k := by decide
  exact ones k hk

/-- A shifted byte has one more 1 come in from below (R530). -/
theorem LowOnes.shift {n : Nat} {p : Serial} (h : LowOnes n p.sb) (hn : n < 8) : LowOnes (n + 1) p.shift.sb := by
  intro k hk
  show bit ((p.sb <<< 1) ||| 0x01) k = true
  rw [bit_or]
  cases k with
  | zero => exact Bool.or_true _
  | succ k => rw [(bit_shl p.sb k (by omega)).1, h k (by omega), Bool.true_or]

/-- `t` is `n` M-cycles into a transfer that began with IF at `ifReg`: every 128 of them have shifted a bit. -/
structure SerialProgress (ifReg : Byte) (n : Nat) (t : State) : Prop where
  bits : t.serial.bits = 8 - n / 128
  clock : t.serial.clock = 4 * (n % 128)
  sc : t.serial.sc = 0x81
  low : LowOnes (n / 128) t.serial.sb
  quiet : t.ifReg = ifReg

/-- One M-cycle more, short of the last: a tick, or on every 128th a shift. -/
theorem SerialProgress.succ {f : Byte} {n : Nat} {t : State} (h : SerialProgress f n t) (hn : n + 1 < 1024) :
    SerialProgress f (n + 1) (serialMcycle t) := by
  obtain ⟨bits, clock, sc, low, quiet⟩ := h
  by_cases hp : n % 128 = 127
  · have shifts : (n + 1) / 128 = n / 128 + 1 := by omega
    rw [serialMcycle_shift (by omega) (by omega) (by omega)]
    refine ⟨?_, ?_, sc, ?_, quiet⟩
    · show t.serial.bits - 1 = _
      omega
    · show 0 = _
      omega
    · rw [shifts]
      exact low.shift (by omega)
  · have shifts : (n + 1) / 128 = n / 128 := by omega
    rw [serialMcycle_tick (by omega) (by omega)]
    refine ⟨bits.trans (by rw [shifts]), ?_, sc, shifts ▸ low, quiet⟩
    show t.serial.clock + 4 = _
    omega

theorem SerialProgress.iterate {f : Byte} {start : State} (h : SerialProgress f 0 start) :
    ∀ n, n < 1024 → SerialProgress f n (Nat.iterate serialMcycle n start)
  | 0, _ => h
  | n + 1, hn => by
    rw [Function.iterate_succ_apply']
    exact (SerialProgress.iterate h n (by omega)).succ hn

/-- The last M-cycle of a transfer: the eighth shift, SC bit 7 clear, and the request (R530). -/
theorem SerialProgress.last {f : Byte} {t : State} (h : SerialProgress f 1023 t) :
    (serialMcycle t).serial.sb = 0xFF ∧ (serialMcycle t).serial.sc = 0x01 ∧ (serialMcycle t).ifReg = f ||| 0x08 ∧
      (serialMcycle t).serial.bits = 0 := by
  obtain ⟨bits, clock, sc, low, quiet⟩ := h
  rw [serialMcycle_last bits (by rw [clock])]
  refine ⟨(low.shift (by decide)).eight, ?_, by rw [quiet], ?_⟩
  · show t.serial.sc &&& 0x7F = 0x01
    rw [sc]
    rfl
  · show t.serial.bits - 1 = 0
    rw [bits]

/-- A write of 0x81 to SC starts a transfer with the internal clock (R530). -/
theorem busWrite_sc_start (s : State) : busWrite s 0xFF02 0x81 = { s with
    serial := { s.serial with sc := 0x81, bits := 8, clock := 0 }
    out := { s.out with serialOut := s.serial.sb :: s.out.serialOut } } :=
  (busWrite_ioReg s (r := .sc) 0x81 (by simp [ioRegAt])).trans ((scWrite_eq_ite s 0x81).trans (if_pos (by decide)))

/-- Settles O51: the transfer's progress by the number of M-cycles, and its last one. -/
theorem serialTransfer : Obligations.SerialTransfer := by
  intro s start
  have hstart : start = _ := busWrite_sc_start s
  have begun : SerialProgress s.ifReg 0 start := by
    rw [hstart]
    exact ⟨rfl, rfl, rfl, fun k hk => absurd hk (Nat.not_lt_zero k), rfl⟩
  refine ⟨by rw [hstart], fun n hn => ?_, ?_⟩
  · have h := begun.iterate n hn
    exact ⟨h.quiet, by rw [h.sc]; rfl⟩
  · rw [Function.iterate_succ_apply']
    exact (begun.iterate 1023 (by decide)).last

/-! ## The joypad (R532) -/

/-- The joypad samples the next button state of the list, or the last one again (log entry 6). -/
theorem joypadMcycle_eq_sample (s : State) :
    joypadMcycle s = joypadSample { s with buttonsIn := s.buttonsIn.tail } (s.buttonsIn.headD s.joypad.buttons) := by
  cases h : s.buttonsIn with
  | nil =>
    rw [joypadMcycle, h]
    exact congrArg (fun l => joypadSample { s with buttonsIn := l } s.joypad.buttons) h
  | cons b rest => rw [joypadMcycle, h]; rfl

/-- A line falls when it was 1 and is 0 (R532). -/
theorem falls_eq : ∀ before now : BitVec 4,
    decide (before &&& (now ^^^ 0xF) ≠ 0) = [0, 1, 2, 3].any fun n => before.getLsbD n && !now.getLsbD n := by decide

theorem joypadSample_ifReg (s : State) (b : Buttons) : (joypadSample s b).ifReg =
    if s.params.joypadIrq = .edge ∧ s.joypad.p1Prev &&& (p1Nibble s.joypad.p1 b ^^^ 0xF) ≠ 0 then s.ifReg ||| flagBit true 4
    else s.ifReg := rfl

/-- Settles O52: the nibble line by line (R41), and the request on a falling line. -/
theorem joypadRequests : Obligations.JoypadRequests := by
  intro s b t low
  have ht : t = joypadSample { s with buttonsIn := s.buttonsIn.tail } b := joypadMcycle_eq_sample s
  have line : ∀ n < 4, (p1Nibble s.joypad.p1 b).getLsbD n = !low n := fun n hn => p1Nibble_getLsbD s.joypad.p1 b hn
  have falls : decide (s.joypad.p1Prev &&& (p1Nibble s.joypad.p1 b ^^^ 0xF) ≠ 0) =
      [0, 1, 2, 3].any fun n => s.joypad.p1Prev.getLsbD n && low n := by
    rw [falls_eq]
    simp only [List.any_cons, List.any_nil, line, Nat.reduceLT, Nat.ofNat_pos, Bool.not_not]
  rw [ht]
  refine ⟨rfl, rfl, rfl, line, fun k hk => ?_⟩
  rw [joypadSample_ifReg, bit_request _ _ (by decide) hk, Bool.decide_and, falls, Bool.and_comm, Bool.and_assoc]

end Sys2Proof.Machine
end

section
/-! SUPPORT. The PPU (61_ppu.md): the OAM scan, what the stages of a dot make of the position, the STAT line, IF and the frame, the
LCD switch, and the statements about them. -/

namespace Sys2Proof.Machine

/-! ## The OAM scan (R603) -/

/-- What a rising list's first n elements leave out comes after n that they hold. -/
theorem take_full_below_of_not_mem {l : List Nat} (rising : l.Pairwise (· < ·)) {n i : Nat} (hi : i ∈ l) (hout : i ∉ l.take n) :
    (l.take n).length = n ∧ ∀ j ∈ l.take n, j < i := by
  have hdrop : i ∈ l.drop n := by
    rw [← List.take_append_drop n l, List.mem_append] at hi
    exact hi.resolve_left hout
  have more : n < l.length := by
    have left := List.length_pos_of_mem hdrop
    rw [List.length_drop] at left
    omega
  rw [← List.take_append_drop n l, List.pairwise_append] at rising
  obtain ⟨-, -, below⟩ := rising
  exact ⟨List.length_take_of_le more.le, fun j hj => below j hj i hdrop⟩

/-- The entries on a line in index order, before the scan keeps the first ten. -/
theorem onLine_rising (lcdc : Byte) (oam : Memory) (ly : Nat) : ((List.range 40).filter (onLine lcdc oam ly)).Pairwise (· < ·) :=
  List.pairwise_lt_range.filter _

theorem oamScan_onLine {lcdc : Byte} {oam : Memory} {ly i : Nat} (h : i ∈ oamScan lcdc oam ly) : onLine lcdc oam ly i = true :=
  (List.mem_filter.mp (List.mem_of_mem_take h)).2

/-- Settles O55: the scan is the first ten of the rising list of all entries on the line. -/
theorem oamScanFindsTheFirstTen : Obligations.OamScanFindsTheFirstTen := by
  intro lcdc oam ly found covers
  have covers_iff (i : Nat) : onLine lcdc oam ly i = true ↔ covers i := decide_eq_true_iff
  refine ⟨oamScan_length lcdc oam ly, (onLine_rising lcdc oam ly).take, fun i hi => ?_, fun i hlt hcov hout => ?_⟩
  · exact ⟨oamScan_lt lcdc oam ly i hi, (covers_iff i).mp (oamScan_onLine hi)⟩
  · have listed : i ∈ (List.range 40).filter (onLine lcdc oam ly) :=
      List.mem_filter.mpr ⟨List.mem_range.mpr hlt, (covers_iff i).mpr hcov⟩
    exact take_full_below_of_not_mem (onLine_rising lcdc oam ly) listed hout

/-! ## What the stages of a dot leave alone (R600) -/

@[simp] theorem dmaTick_ppu (s : State) : (dmaTick s).ppu = s.ppu := by rw [dmaTick_eq]

@[simp] theorem dmaTick_ifReg (s : State) : (dmaTick s).ifReg = s.ifReg := by rw [dmaTick_eq]

theorem ppuDot_on {s : State} (on : s.ppu.lcdOn = true) : ppuDot s = lcdDot (dmaTick s) := by
  unfold ppuDot
  dsimp only
  rw [dmaTick_ppu, if_pos on]

theorem ppuDot_off {s : State} (off : s.ppu.lcdOn = false) : ppuDot s = dmaTick s := by
  unfold ppuDot
  dsimp only
  rw [dmaTick_ppu, off, if_neg Bool.false_ne_true]

/-- A stage that moves neither what the STAT line is made from besides the mode, nor the line itself (R607). -/
def Ppu.SameStat (p q : Ppu) : Prop := q.stat = p.stat ∧ q.lyc = p.lyc ∧ q.statLine = p.statLine

theorem Ppu.SameStat.trans {p q r : Ppu} (h : p.SameStat q) (k : q.SameStat r) : p.SameStat r := by
  obtain ⟨stat, lyc, line⟩ := h
  obtain ⟨stat', lyc', line'⟩ := k
  exact ⟨stat'.trans stat, lyc'.trans lyc, line'.trans line⟩

theorem lineStart_stat (p : Ppu) : p.SameStat (lineStart p) := by unfold lineStart; split <;> exact ⟨rfl, rfl, rfl⟩

theorem vblankStart_stat (s : State) : s.ppu.SameStat (vblankStart s).ppu := by unfold vblankStart; split <;> exact ⟨rfl, rfl, rfl⟩

theorem transferStart_stat (s : State) : s.ppu.SameStat (transferStart s).ppu := by
  unfold transferStart; dsimp only; split <;> exact ⟨rfl, rfl, rfl⟩

theorem hblankStart_stat (p : Ppu) : p.SameStat (hblankStart p) := by unfold hblankStart; split <;> exact ⟨rfl, rfl, rfl⟩

theorem dotModes_stat (s : State) : s.ppu.SameStat (dotModes s).ppu :=
  (lineStart_stat s.ppu).trans <| (vblankStart_stat { s with ppu := lineStart s.ppu }).trans <|
  (transferStart_stat _).trans (hblankStart_stat _)

theorem lineStart_frames (p : Ppu) : (lineStart p).fbWork = p.fbWork ∧ (lineStart p).fbPub = p.fbPub := by
  unfold lineStart; split <;> exact ⟨rfl, rfl⟩

theorem vblankStart_fbPub (s : State) :
    (vblankStart s).ppu.fbPub = if s.ppu.ly = 144 ∧ s.ppu.dot = 0 then some s.ppu.fbWork else s.ppu.fbPub := by
  unfold vblankStart; split <;> rfl

theorem transferStart_ifReg (s : State) : (transferStart s).ifReg = s.ifReg := by rw [transferStart_eq]

theorem transferStart_fbPub (s : State) : (transferStart s).ppu.fbPub = s.ppu.fbPub := by
  unfold transferStart; dsimp only; split <;> rfl

theorem hblankStart_fbPub (p : Ppu) : (hblankStart p).fbPub = p.fbPub := by unfold hblankStart; split <;> rfl

/-- The counters move the position and the window's state, and nothing else of the PPU. -/
theorem dotAdvance_eq (p : Ppu) : dotAdvance p = { p with
    dot := (dotAdvance p).dot
    ly := (dotAdvance p).ly
    wyLatch := (dotAdvance p).wyLatch
    winLine := (dotAdvance p).winLine } := by
  unfold dotAdvance; split
  · split <;> rfl
  · rfl

/-! ## What a dot with the LCD on does (R600, R601, R606, R607, R609, R610, R636) -/

/-- In the frame of 154 lines of 456 dots the counters move on by one (R601). -/
theorem dotAdvance_position {p : Ppu} (hl : p.ly < 154) (hd : p.dot < 456) :
    (dotAdvance p).dot < 456 ∧ (dotAdvance p).ly * 456 + (dotAdvance p).dot = (p.ly * 456 + p.dot + 1) % 70224 := by
  rcases dotAdvance_place p with ⟨dot, ly, _⟩ | ⟨dot, ly, _, _⟩ | ⟨dot, ly, _, _⟩ <;> rw [dot, ly] <;> omega

/-- V-blank starts: the request and the publication of the working frame, from the state before the dot (R609, R636). -/
theorem dotModes_vblank (s : State) :
    (dotModes s).ifReg = (if s.ppu.ly = 144 ∧ s.ppu.dot = 0 then s.ifReg ||| flagBit true 0 else s.ifReg) ∧
    (dotModes s).ppu.fbPub = if s.ppu.ly = 144 ∧ s.ppu.dot = 0 then some s.ppu.fbWork else s.ppu.fbPub := by
  obtain ⟨hly, hdot, -⟩ := lineStart_place s.ppu
  obtain ⟨hwork, hpub⟩ := lineStart_frames s.ppu
  have started := vblankStart_ifReg { s with ppu := lineStart s.ppu }
  have published := vblankStart_fbPub { s with ppu := lineStart s.ppu }
  simp only [hly, hdot, hwork, hpub] at started published
  exact ⟨(transferStart_ifReg _).trans started, (hblankStart_fbPub _).trans ((transferStart_fbPub _).trans published)⟩

theorem statUpdate_dotModes_place (s : State) : s.ppu.SamePlace (statUpdate (dotModes s)).ppu := dotModes_place s

theorem lcdDot_position {s : State} (hl : s.ppu.ly < 154) (hd : s.ppu.dot < 456) :
    (lcdDot s).ppu.dot < 456 ∧
      (lcdDot s).ppu.ly * 456 + (lcdDot s).ppu.dot = (s.ppu.ly * 456 + s.ppu.dot + 1) % 70224 := by
  obtain ⟨hly, hdot, -⟩ := statUpdate_dotModes_place s
  have position := dotAdvance_position (p := (statUpdate (dotModes s)).ppu) (hly.trans_lt hl) (hdot.trans_lt hd)
  rwa [hly, hdot] at position

theorem lcdDot_fbPub (s : State) :
    (lcdDot s).ppu.fbPub = if s.ppu.ly = 144 ∧ s.ppu.dot = 0 then some s.ppu.fbWork else s.ppu.fbPub :=
  (congrArg Ppu.fbPub (dotAdvance_eq _)).trans (dotModes_vblank s).2

/-- The coincidence bit is of the line the dot was on, before the counters moved on (R606). -/
theorem lcdDot_coincidence (s : State) : (lcdDot s).ppu.coincidence = decide (s.ppu.ly = s.ppu.lyc.toNat) := by
  obtain ⟨hly, -, -⟩ := dotModes_place s
  obtain ⟨-, hlyc, -⟩ := dotModes_stat s
  rw [← hly, ← hlyc]
  exact congrArg Ppu.coincidence (dotAdvance_eq _)

theorem lcdDot_stat (s : State) : (lcdDot s).ppu.stat = s.ppu.stat :=
  (congrArg Ppu.stat (dotAdvance_eq _)).trans (dotModes_stat s).1

/-- The STAT line after a dot is the line of the registers after it: the counters move none of them (R607). -/
theorem lcdDot_statLine (s : State) : (lcdDot s).ppu.statLine = statLineOf (lcdDot s).ppu := by
  rw [lcdDot_eq_stages, dotAdvance_eq]
  rfl

/-- A dot requests V-blank at line 144, dot 0, and LCD-STAT on a rising STAT line, and nothing else (R609, R610). -/
theorem bit_lcdDot_ifReg (s : State) {k : Nat} (hk : k < 8) : bit (lcdDot s).ifReg k =
    ((bit s.ifReg k || (decide (s.ppu.ly = 144 ∧ s.ppu.dot = 0) && decide (k = 0)))
      || ((lcdDot s).ppu.statLine && !s.ppu.statLine && decide (k = 1))) := by
  obtain ⟨-, -, before⟩ := dotModes_stat s
  have after : (lcdDot s).ppu.statLine = (statUpdate (dotModes s)).ppu.statLine := by
    rw [lcdDot_eq_stages, dotAdvance_eq]
  have raised : (lcdDot s).ifReg = if ((lcdDot s).ppu.statLine && !(dotModes s).ppu.statLine) = true
      then (dotModes s).ifReg ||| flagBit true 1 else (dotModes s).ifReg := by
    rw [after]
    rfl
  rw [raised, bit_request _ _ (by decide) hk, (dotModes_vblank s).1, bit_request _ _ (by decide) hk, before, Bool.decide_eq_true]

/-- Settles O54: the dot's coincidence bit, line and request, whatever the DMA engine did before. -/
theorem statInterrupt : Obligations.StatInterrupt := by
  intro s on t line
  have ht : t = lcdDot (dmaTick s) := ppuDot_on on
  have hline : line = statLineOf t.ppu := by
    unfold line statLineOf
    rw [ht, lcdDot_stat, dmaTick_ppu]
  have hstat : t.ppu.statLine = line := by
    rw [hline, ht, lcdDot_statLine]
  refine ⟨?_, hstat, ?_⟩
  · rw [ht, lcdDot_coincidence, dmaTick_ppu]
  · rw [← hstat, ht, bit_lcdDot_ifReg _ (by decide)]
    simp

/-! ## The LCD switched off and on (R640) -/

theorem Ppu.lcdcWrite_off {p : Ppu} {v : Byte} (on : p.lcdOn = true) (clears : bit v 7 = false) :
    p.lcdcWrite v = { p with lcdc := v, ly := 0, dot := 0, mode := .hblank, statLine := false } := if_pos ⟨on, clears⟩

theorem Ppu.lcdcWrite_on {p : Ppu} {v : Byte} (off : p.lcdOn = false) (sets : bit v 7 = true) :
    p.lcdcWrite v = { p with lcdc := v, ly := 0, dot := 0, wyLatch := false, winLine := 0 } := by
  unfold Ppu.lcdcWrite
  rw [if_neg (by simp [off]), if_pos ⟨off, sets⟩]

theorem Ppu.lcdcWrite_same {p : Ppu} {v : Byte} (same : p.lcdOn = bit v 7) : p.lcdcWrite v = { p with lcdc := v } := by
  unfold Ppu.lcdcWrite
  rw [same]
  cases bit v 7 <;> rfl

theorem Ppu.lcdcWrite_lcdc (p : Ppu) (v : Byte) : (p.lcdcWrite v).lcdc = v := by
  unfold Ppu.lcdcWrite; split
  · rfl
  · split <;> rfl

theorem busWrite_lcdc (s : State) (v : Byte) : busWrite s 0xFF40 v = { s with ppu := s.ppu.lcdcWrite v } :=
  busWrite_ioReg s (r := .lcdc) v (by simp [ioRegAt])

theorem busRead_lcdc (s : State) : busRead s 0xFF40 = s.ppu.lcdc := busRead_ioReg s (r := .lcdc) (by simp [ioRegAt])

/-- With the LCD off LY and the STAT mode read 0. -/
theorem busRead_lcdOff {s : State} (off : s.ppu.lcdOn = false) :
    busRead s 0xFF44 = 0x00 ∧ (busRead s 0xFF41).toNat % 4 = 0 := by
  have ly : busRead s 0xFF44 = s.ppu.lyRead := busRead_ioReg s (r := .ly) (by simp [ioRegAt])
  have stat : busRead s 0xFF41 = s.ppu.statRead := busRead_ioReg s (r := .stat) (by simp [ioRegAt])
  rw [ly, stat, Ppu.statRead_mod, Ppu.statMode, Ppu.lyRead, off]
  exact ⟨rfl, rfl⟩

/-- Dot 0 of a visible line is in mode 2 (R600). -/
theorem dotModes_lineStart_mode {s : State} (hly : s.ppu.ly < 144) (hdot : s.ppu.dot = 0) :
    (dotModes s).ppu.mode = .oamScan := by
  obtain ⟨a1, a2, -⟩ := lineStart_place s.ppu
  obtain ⟨-, b2, -⟩ := vblankStart_place { s with ppu := lineStart s.ppu }
  obtain ⟨-, c2, -⟩ := transferStart_place (vblankStart { s with ppu := lineStart s.ppu })
  have dot := c2.trans (b2.trans (a2.trans hdot))
  have visible : ¬((lineStart s.ppu).ly = 144 ∧ (lineStart s.ppu).dot = 0) := by omega
  show (hblankStart (transferStart (vblankStart { s with ppu := lineStart s.ppu })).ppu).mode = _
  rw [hblankStart_mode, if_neg (by omega), transferStart_mode, if_neg (by omega), vblankStart_mode, if_neg visible,
    lineStart_mode, if_pos ⟨hly, hdot⟩]

/-- The first dot of a frame is in mode 2, and leads to dot 1 of line 0. -/
theorem lcdDot_frameStart {s : State} (hly : s.ppu.ly = 0) (hdot : s.ppu.dot = 0) :
    (lcdDot s).ppu.mode = .oamScan ∧ (lcdDot s).ppu.ly = 0 ∧ (lcdDot s).ppu.dot = 1 := by
  obtain ⟨before, position⟩ := lcdDot_position (s := s) (by omega) (by omega)
  rw [hly, hdot] at position
  exact ⟨(dotAdvance_mode _).trans (dotModes_lineStart_mode (by omega) hdot), by omega, by omega⟩

theorem ppuDot_frameStart {s : State} (on : s.ppu.lcdOn = true) (hly : s.ppu.ly = 0) (hdot : s.ppu.dot = 0) :
    (ppuDot s).ppu.mode = .oamScan ∧ (ppuDot s).ppu.ly = 0 ∧ (ppuDot s).ppu.dot = 1 := by
  rw [ppuDot_on on]
  exact lcdDot_frameStart (by rw [dmaTick_ppu, hly]) (by rw [dmaTick_ppu, hdot])

/-- Settles O53: the dot with the LCD on and off, then the three cases of a write to LCDC. -/
theorem frameTiming : Obligations.FrameTiming := by
  refine ⟨fun s on hl hd => ?_, fun s off => ?_, fun s v => ?_⟩
  · have hdma := dmaTick_ppu s
    obtain ⟨hdot, position⟩ := lcdDot_position (s := dmaTick s) (hdma ▸ hl) (hdma ▸ hd)
    have pub := lcdDot_fbPub (dmaTick s)
    have request := bit_lcdDot_ifReg (dmaTick s) (k := 0) (by decide)
    rw [hdma] at position pub request
    rw [dmaTick_ifReg] at request
    dsimp only
    rw [ppuDot_on on]
    exact ⟨hdot, position, by simpa using request, pub⟩
  · rw [ppuDot_off off]
    exact ⟨rfl, by rw [dmaTick_eq], busRead_lcdOff off⟩
  · rw [busWrite_lcdc]
    refine ⟨rfl, ?_, fun on clears => ?_, fun off sets => ?_, fun same => ?_⟩
    · rw [busRead_lcdc]
      exact Ppu.lcdcWrite_lcdc s.ppu v
    · rw [Ppu.lcdcWrite_off on clears]
      exact ⟨rfl, clears⟩
    · rw [Ppu.lcdcWrite_on off sets]
      exact ⟨rfl, sets, ppuDot_frameStart sets rfl rfl⟩
    · exact Ppu.lcdcWrite_same same

end Sys2Proof.Machine
end

section
/-! SUPPORT. The audio unit (62_apu.md): the power switch (R701), the length clock (R711), triggers without a DAC (R720), and silent
channels (R740 to R742). -/

namespace Sys2Proof.Machine

/-! ## The power switch (R71, R701) -/

theorem Apu.powerWrite_off {a : Apu} {v : Byte} (on : a.power = true) (clears : bit v 7 = false) : a.powerWrite v = a.powerOff :=
  if_pos ⟨on, clears⟩

/-- With the power off only NR52 takes a write (R701). -/
theorem Apu.write_ignored {a : Apu} {r : ApuReg} (off : a.power = false) (hr : r ≠ .nr52) (v : Byte) : a.write r v = a :=
  if_neg (by simp [off, hr])

/-- NR52 takes every write (R701). -/
theorem Apu.write_nr52 (a : Apu) (v : Byte) : a.write .nr52 v = a.powerWrite v := if_pos (.inr rfl)

/-- With the power off and no channel on, NR52 reads its fixed bits alone (R71). -/
theorem Apu.powerOff_read_nr52 (a : Apu) : a.powerOff.read .nr52 = 0x70 := by
  show flagBit false 7 ||| 0x70 ||| flagBit false 3 ||| flagBit false 2 ||| flagBit false 1 ||| flagBit false 0 = 0x70
  decide

/-- A write to NR52 through the bus that turns the power off changes the audio unit alone. -/
theorem busWrite_powerOff {s : State} {v : Byte} (on : s.apu.power = true) (clears : bit v 7 = false) :
    busWrite s 0xFF26 v = { s with apu := s.apu.powerOff } := by
  rw [← Apu.powerWrite_off on clears, ← Apu.write_nr52]
  exact busWrite_ioAt s (n := 0xFF26) (by decide) v

/-- Settles O56: the write is `powerOff` of the audio unit, whose fields say the rest. -/
theorem apuPower : Obligations.ApuPower := by
  intro s v on clears
  dsimp only
  rw [busWrite_powerOff on clears]
  refine ⟨?_, rfl, fun r hr w => Apu.write_ignored rfl hr w, ?_, rfl, rfl, rfl, rfl, rfl, rfl, rfl, rfl, rfl, rfl, rfl⟩
  · exact (busRead_ioAt _ (n := 0xFF26) (by decide)).trans s.apu.powerOff_read_nr52
  · simp [Apu.powerOff]

/-! ## The length clock (R711) -/

/-- The channel goes off at the count from 1 to 0 and at no other; a length of 0 stays. -/
theorem lengthStep_eq (nrx4 : Byte) (on : Bool) (len : Nat) :
    lengthStep nrx4 on len = (on && !(bit nrx4 6 && decide (len = 1)), if bit nrx4 6 then len - 1 else len) := by
  unfold lengthStep
  cases bit nrx4 6 with
  | false => simp
  | true =>
    match len with
    | 0 => simp
    | 1 => simp
    | n + 2 => simp

/-! ## Triggers (R720) -/

/-- The overflow check turns channel 1 off or leaves it. -/
theorem Apu.sweepCheck_off {a : Apu} (off : a.ch1.on = false) : a.sweepCheck.ch1.on = false := by
  unfold Apu.sweepCheck
  split
  · rfl
  · exact off

theorem Apu.trigger1_off {a : Apu} (dac : a.dac1 = false) : a.trigger1.ch1.on = false := by
  unfold Apu.trigger1
  dsimp only
  split
  · exact Apu.sweepCheck_off dac
  · exact dac

section
variable (a : Apu) {v : Byte} (trigger : bit v 7 = true)
include trigger

/-! A store to NRx4 with bit 7 set triggers the channel (R721). -/

theorem Apu.regWrite_nr14 : a.regWrite .nr14 v = ({ a with nr14 := v } : Apu).trigger1 := if_pos trigger

theorem Apu.regWrite_nr24 : a.regWrite .nr24 v = ({ a with nr24 := v } : Apu).trigger2 := if_pos trigger

theorem Apu.regWrite_nr34 : a.regWrite .nr34 v = ({ a with nr34 := v } : Apu).trigger3 := if_pos trigger

theorem Apu.regWrite_nr44 : a.regWrite .nr44 v = ({ a with nr44 := v } : Apu).trigger4 := if_pos trigger

end

/-- A DAC whose bits of NRx2 are all 0 is off (R702). -/
theorem dac_off {nrx2 : Byte} (h : nrx2 &&& 0xF8 = 0) : decide (nrx2 &&& 0xF8 ≠ 0) = false :=
  decide_eq_false (not_not.mpr h)

/-! ## A channel that is off (R740 to R742) -/

theorem pulseOut_off (nrx1 : Byte) {c : Pulse} (off : c.on = false) : pulseOut nrx1 c = 0 := if_neg (by simp [off])

theorem waveOut_off (nr32 : Byte) {c : Wave} (off : c.on = false) : waveOut nr32 c = 0 := if_neg (by simp [off])

theorem noiseOut_off {c : Noise} (off : c.on = false) : noiseOut c = 0 := if_neg (by simp [off])

/-- Settles O57: `lengthStep_eq` on each channel, the four triggers, and the four outputs. -/
theorem apuChannelOff : Obligations.ApuChannelOff := by
  intro a
  have clocked (nrx4 : Byte) (on : Bool) (len : Nat) := Prod.ext_iff.mp (lengthStep_eq nrx4 on len)
  refine ⟨clocked _ _ _, clocked _ _ _, clocked _ _ _, clocked _ _ _, fun v trigger => ⟨?_, ?_, ?_, ?_⟩,
    pulseOut_off _, pulseOut_off _, waveOut_off _, noiseOut_off⟩ <;> intro h
  · rw [Apu.regWrite_nr14 a trigger]
    exact Apu.trigger1_off (dac_off h)
  · rw [Apu.regWrite_nr24 a trigger]
    exact dac_off h
  · rw [Apu.regWrite_nr34 a trigger]
    exact h
  · rw [Apu.regWrite_nr44 a trigger]
    exact dac_off h

end Sys2Proof.Machine
end

section
/-! SUPPORT. Cartridge load and launch (20_memory.md R150, R158 to R162; 70_reset_and_hazards.md R800): which images load, what the
loaded cartridge and its RAM hold, and what a launched machine's registers read. -/

namespace Sys2Proof.Machine

/-! ## The header's codes (R150, R159, R160) -/

theorem mapperOf_ok {code : Byte} (h : code ∈ [(0x00 : Byte), 0x01, 0x02, 0x03]) :
    mapperOf code = .ok (if code = 0x00 then .noMapper else .bank, decide (code = 0x03)) := by
  revert code
  decide

theorem mapperOf_error {code : Byte} (h : code ∉ [(0x00 : Byte), 0x01, 0x02, 0x03]) :
    mapperOf code = .error (.cartType code) := by
  revert code
  decide

theorem romBanksOf_ok {code : Byte} (h : code.toNat ≤ 8) : romBanksOf code = .ok (2 * 2 ^ code.toNat) := if_pos h

theorem romBanksOf_error {code : Byte} (h : ¬code.toNat ≤ 8) : romBanksOf code = .error (.romSize code) := if_neg h

theorem ramBanksOf_ok {code : Byte} (h : code ∈ [(0x00 : Byte), 0x02, 0x03, 0x04, 0x05]) :
    ∃ n, ramBanksOf code = .ok n ∧ (code, n) ∈ [((0x00 : Byte), 0), (0x02, 1), (0x03, 4), (0x04, 16), (0x05, 8)] := by
  fin_cases h <;> exact ⟨_, rfl, by decide⟩

theorem ramBanksOf_error {code : Byte} (h : code ∉ [(0x00 : Byte), 0x02, 0x03, 0x04, 0x05]) :
    ramBanksOf code = .error (.ramSize code) := by
  revert code
  decide

/-! ## The cartridge (R162) -/

/-- The images that R150, R159, R160 and R162 let load. -/
structure Image.Loads (img : Image) : Prop where
  type : img.bytes.read 0x0147 ∈ [(0x00 : Byte), 0x01, 0x02, 0x03]
  romSize : (img.bytes.read 0x0148).toNat ≤ 8
  ramSize : img.bytes.read 0x0149 ∈ [(0x00 : Byte), 0x02, 0x03, 0x04, 0x05]
  size : 2 * 2 ^ (img.bytes.read 0x0148).toNat * 0x4000 ≤ img.size

/-- The cartridge that an image with `ramBanks` RAM banks makes. -/
def Image.cartridge (img : Image) (ramBanks : Nat) : Cartridge :=
  let romBanks := 2 * 2 ^ (img.bytes.read 0x0148).toNat
  { kind := if img.bytes.read 0x0147 = 0x00 then .noMapper else .bank
    battery := decide (img.bytes.read 0x0147 = 0x03)
    romBanks := romBanks
    ramBanks := ramBanks
    rom := img.bytes.below (romBanks * 0x4000) }

/-- `cartridgeOf` check by check, each field of the header read from its place (R158). -/
theorem cartridgeOf_eq (img : Image) : cartridgeOf img =
    (mapperOf (img.bytes.read 0x0147)).bind fun mapper => (romBanksOf (img.bytes.read 0x0148)).bind fun romBanks =>
      (ramBanksOf (img.bytes.read 0x0149)).bind fun ramBanks =>
        if img.size < romBanks * 0x4000 then .error (.shortImage img.size (romBanks * 0x4000))
        else .ok ⟨mapper.1, mapper.2, romBanks, ramBanks, img.bytes.below (romBanks * 0x4000)⟩ := by
  unfold cartridgeOf headerOf
  dsimp only
  cases mapperOf (img.bytes.read 0x0147) with
  | error e => rfl
  | ok mapper =>
    cases romBanksOf (img.bytes.read 0x0148) with
    | error e => rfl
    | ok romBanks => cases ramBanksOf (img.bytes.read 0x0149) <;> rfl

theorem cartridgeOf_ok {img : Image} (h : img.Loads) : ∃ n, cartridgeOf img = .ok (img.cartridge n) ∧
    (img.bytes.read 0x0149, n) ∈ [((0x00 : Byte), 0), (0x02, 1), (0x03, 4), (0x04, 16), (0x05, 8)] := by
  obtain ⟨n, banks, row⟩ := ramBanksOf_ok h.ramSize
  refine ⟨n, ?_, row⟩
  rw [cartridgeOf_eq, mapperOf_ok h.type, romBanksOf_ok h.romSize, banks]
  exact if_neg (Nat.not_lt_of_le h.size)

/-- The first check that fails names the reason. -/
theorem cartridgeOf_error {img : Image} (h : ¬img.Loads) : ∃ r, cartridgeOf img = .error r := by
  rw [cartridgeOf_eq]
  by_cases type : img.bytes.read 0x0147 ∈ [(0x00 : Byte), 0x01, 0x02, 0x03]
  case neg => exact ⟨_, by rw [mapperOf_error type]; rfl⟩
  by_cases romSize : (img.bytes.read 0x0148).toNat ≤ 8
  case neg => exact ⟨_, by rw [mapperOf_ok type, romBanksOf_error romSize]; rfl⟩
  by_cases ramSize : img.bytes.read 0x0149 ∈ [(0x00 : Byte), 0x02, 0x03, 0x04, 0x05]
  case neg => exact ⟨_, by rw [mapperOf_ok type, romBanksOf_ok romSize, ramBanksOf_error ramSize]; rfl⟩
  obtain ⟨n, banks, -⟩ := ramBanksOf_ok ramSize
  rw [mapperOf_ok type, romBanksOf_ok romSize, banks]
  exact ⟨_, if_pos (Nat.lt_of_not_le fun size => h ⟨type, romSize, ramSize, size⟩)⟩

/-- Cartridge RAM at load holds the save file below both lengths, if there is a battery (R161). -/
theorem loadedRam_read (c : Cartridge) (save : Option Image) (k : Nat) : (loadedRam c save).read k =
    match save with
    | some f => if c.battery = true ∧ k < f.size ∧ k < c.ramBanks * 0x2000 then f.bytes.read k else 0x00
    | none => 0x00 := by
  cases save with
  | none => rfl
  | some f =>
    unfold loadedRam
    cases c.battery with
    | false => rfl
    | true =>
      dsimp only
      rw [if_pos rfl, Memory.read_below, Memory.read_below, ← ite_and]
      exact if_congr ⟨fun ⟨hn, hf⟩ => ⟨rfl, hf, hn⟩, fun ⟨_, hf, hn⟩ => ⟨hn, hf⟩⟩ rfl rfl

theorem loadedRam_empty {c : Cartridge} {save : Option Image} (h : c.battery = false ∨ save = none) : loadedRam c save = [] := by
  rcases h with battery | rfl
  · cases save with
    | none => rfl
    | some f => exact if_neg (by simp [battery])
  · rfl

/-! ## The launched machine (R800) -/

/-- The machine that a launch of a loaded cartridge starts: `State.reset` with that cartridge, its RAM, F by the header checksum byte,
and the given parameters. -/
def launched (p : Params) (checksum : Byte) (c : Cartridge) (save : Option Image) : State :=
  { State.reset with cpu := .reset checksum, mapper := .reset (loadedRam c save), cart := c, params := p }

theorem launch_ok (p : Params) {img : Image} (save : Option Image) {c : Cartridge} (h : cartridgeOf img = .ok c) :
    launch p img save = .ok (launched p (img.bytes.read 0x014D) c save) := by
  unfold launch launchWith
  rw [h]
  rfl

theorem launch_error (p : Params) {img : Image} (save : Option Image) {r : LoadReason} (h : cartridgeOf img = .error r) :
    launch p img save = .error (.loadError r) := by
  unfold launch launchWith
  rw [h]

/-- An I/O register or IE reads the same after every launch: nothing of the cartridge, the CPU or the parameters is in it. -/
theorem busRead_launched (p : Params) (checksum : Byte) (c : Cartridge) (save : Option Image) {a : Word}
    (h : 0xFF00 ≤ a.toNat ∧ a.toNat < 0xFF80 ∨ 0xFFFF ≤ a.toNat) :
    busRead (launched p checksum c save) a = busRead State.reset a := by
  rcases h with ⟨h1, h2⟩ | h
  · rw [busRead_io _ h1 h2, busRead_io _ h1 h2]
    cases ioRegAt (a.toNat - 0xFF00) <;> rfl
  · rw [busRead_ie _ h, busRead_ie _ h]
    rfl

/-- Settles O60: an image loads or names a reason, and a loaded one starts as `launched`. -/
theorem launchFromHeader : Obligations.LaunchFromHeader := by
  intro p img save type romSize ramSize good
  have loads : good ↔ img.Loads := ⟨fun ⟨h1, h2, h3, h4⟩ => ⟨h1, h2, h3, h4⟩, fun ⟨h1, h2, h3, h4⟩ => ⟨h1, h2, h3, h4⟩⟩
  refine ⟨fun h => ?_, fun h => ?_⟩
  · obtain ⟨r, refused⟩ := cartridgeOf_error (mt loads.mpr h)
    exact ⟨r, launch_error p save refused⟩
  · obtain ⟨n, loaded, row⟩ := cartridgeOf_ok (loads.mp h)
    refine ⟨_, launch_ok p save loaded, rfl, decide_eq_true_iff, rfl, row, fun k => ?_, fun k => ?_, loadedRam_empty, rfl, rfl, rfl,
      rfl, rfl, rfl, rfl, rfl, rfl, rfl, rfl, rfl, rfl, rfl, rfl, rfl, rfl, rfl, rfl, fun q hq => ?_⟩
    · exact Memory.read_below _ _ k
    · refine (loadedRam_read (img.cartridge n) save k).trans ?_
      cases save with
      | none => rfl
      | some f => exact if_congr (and_congr_left' decide_eq_true_iff) rfl rfl
    · fin_cases hq <;> exact (busRead_launched _ _ _ _ (by decide)).trans (by decide)

end Sys2Proof.Machine
end

section
/-! SUPPORT. The invariant at reset (70_reset_and_hazards.md R800, R801), part by part. -/

namespace Sys2Proof.Machine

theorem Cpu.reset_inv : (Cpu.reset 0).Inv := ⟨by decide, by decide⟩

theorem Timer.reset_inv : Timer.reset.Inv := ⟨by decide⟩

/-- No transfer is in progress at reset. -/
theorem Serial.reset_inv : Serial.reset.Inv := ⟨by decide, by decide, by decide, by decide, fun h => absurd h (by decide)⟩

theorem Joypad.reset_inv : Joypad.reset.Inv := ⟨by decide⟩

/-- The DMA engine is idle at reset. -/
theorem Dma.reset_inv : Dma.reset.Inv := ⟨by decide, fun h => absurd h (by decide), by decide, fun h => absurd h (by decide)⟩

theorem Frame.blank_full : Frame.blank.full :=
  ⟨List.length_replicate, fun _ h => List.eq_of_mem_replicate h ▸ List.length_replicate⟩

/-- The LCD is on at dot 0 of line 0, so no dot has set a mode yet (R66). -/
theorem Ppu.reset_inv : Ppu.reset.Inv where
  stat_bits := by decide
  ly_lt := by decide
  dot_lt := by decide
  cand_le := by decide
  cand_lt := fun _ h => absurd h List.not_mem_nil
  mode3_ge := by decide
  mode3_le := by decide
  work_full := Frame.blank_full
  pub_full := fun _ h => nomatch h
  off := fun h => absurd h (by decide)
  in_line := fun _ h => absurd h (by decide)
  in_vblank := fun _ h => absurd h (by decide)

/-- The power is on at reset. -/
theorem Apu.reset_inv : Apu.reset.Inv where
  ch1 := ⟨by decide, by decide, by decide, by decide⟩
  ch2 := ⟨by decide, by decide, by decide, by decide⟩
  ch3 := ⟨by decide, by decide⟩
  ch4 := ⟨by decide, by decide, by decide⟩
  sweep := ⟨by decide, by decide⟩
  fs_lt := by decide
  acc_lt := by decide
  wave_wf := Memory.wf_nil
  wave_within := fun _ h => absurd h List.not_mem_nil
  power_off := fun h => absurd h (by decide)

theorem Memory.within_nil (n : Nat) : Memory.within [] n := fun _ h => absurd h List.not_mem_nil

/-- Settles O58: each part meets its own invariant, and every memory is empty. -/
theorem resetMeetsTheInvariant : Obligations.ResetMeetsTheInvariant where
  cpu := Cpu.reset_inv
  if_bits := by decide
  timer := Timer.reset_inv
  serial := Serial.reset_inv
  joypad := Joypad.reset_inv
  dma := Dma.reset_inv
  ppu := Ppu.reset_inv
  apu := Apu.reset_inv
  vram_wf := Memory.wf_nil
  vram_within := Memory.within_nil _
  oam_wf := Memory.wf_nil
  oam_within := Memory.within_nil _
  wram_wf := Memory.wf_nil
  wram_within := Memory.within_nil _
  hram_wf := Memory.wf_nil
  hram_within := Memory.within_nil _
  ram_wf := Memory.wf_nil
  ram_within := Memory.within_nil _

end Sys2Proof.Machine
end

section
/-! SUPPORT. The words of the instruction rules (30_encoding.md to 45_system.md). -/

namespace Sys2Proof

/-- A word that the encoder gives a well-formed instruction decodes to it, with nothing left. -/
theorem decode_of_encode {bs : List Byte} {i : Instr} (hi : i.wellFormed = true) (h : encode i = bs) : decode bs = .ok (i, []) := by
  rw [← h, ← List.append_nil (encode i)]
  exact decodeInvertsEncode i [] hi

/-- Settles O3: each word is its instruction's encoding, which O1 decodes. -/
theorem specWordsDecode : Obligations.SpecWordsDecode := by
  unfold Obligations.SpecWordsDecode
  and_intros <;> exact decode_of_encode rfl rfl

end Sys2Proof
end
